-- ==== Sys2Proof/Config.lean ====
section
/-! DEFINITION. The fixed numeric parameters of R8. None is configurable. The one open parameter,
MAX_COLORS (R9), is a field of State (log 6); its suggested default stands here. -/

namespace Sys2Proof.Config

/-- TILE (R8): side of a small tile in pixels. -/
@[simp] abbrev tile : Nat := 8

/-- LTILE (R8): side of a large tile in pixels. -/
@[simp] abbrev ltile : Nat := 16

/-- SCREEN_T (R8): side of a screen in tiles. -/
@[simp] abbrev screenT : Nat := 32

/-- SCREEN_PX (R8): side of a screen in pixels. -/
@[simp] abbrev screenPx : Nat := 256

/-- MAX_SCR_PX (R8): largest width and height accepted by screen-order extraction. -/
@[simp] abbrev maxScrPx : Nat := 512

/-- PAL_W (R8): required width of a palette image in pixels. -/
@[simp] abbrev palW : Nat := 16

/-- MAX_PALETTES (R8): most palettes in a PaletteTable. -/
@[simp] abbrev maxPalettes : Nat := 8

/-- MAX_COLORS_HW (R8): most colours in a PaletteTable in total. -/
@[simp] abbrev maxColorsHw : Nat := 256

/-- MAX_TILES (R8): most tiles in a TileSet. -/
@[simp] abbrev maxTiles : Nat := 1024

/-- MAX_LIN_TILES (R8): most tiles accepted by the linear packer. -/
@[simp] abbrev maxLinTiles : Nat := 256

/-- TM_BLOCK (R8): the tilemap length must be a multiple of this. -/
@[simp] abbrev tmBlock : Nat := 1024

/-- The default R9 suggests for MAX_COLORS; the value `State.reset` gives the parameter (log 6). -/
@[simp] abbrev defaultMaxColors : Nat := 256

end Sys2Proof.Config
end

