-- ==== Sys2Proof/Word.lean ====
section
/-! DEFINITION. The value types of the engine (spec/00_scope.md section 5.3) and the two key orders that
keep finite maps in one canonical form. All values are unsigned (R55). -/

namespace Sys2Proof

/-- One 8-bit value: a colour channel (`Chan`), a byte of an output buffer. -/
abbrev Byte := BitVec 8

/-- `HwColor`: the 15-bit packed colour (R17). -/
abbrev HwColor := BitVec 15

/-- `Index`: a palette index, one byte (R19, R20). -/
abbrev Index := BitVec 8

/-- A `Bytes` value: an output buffer, first byte first (R34). -/
abbrev Bytes := List Byte

/-- The order of colours by value: the key order of a palette's canonical form (log 10). -/
def colorLt (a b : HwColor) : Bool := decide (a.toNat < b.toNat)

/-- The lexicographic order of byte sequences: the key order of LUT's canonical form (log 10). -/
def bytesLt : List Byte → List Byte → Bool
  | [], [] => false
  | [], _ :: _ => true
  | _ :: _, [] => false
  | a :: as, b :: bs => decide (a.toNat < b.toNat) || (a == b && bytesLt as bs)

end Sys2Proof
end

