-- ==== Sys2Proof/Syntax.lean ====
section
/-! DEFINITION. Operand types, the operations with their typed operands (R47, R48: "a model should
represent an operation as a constructor of an inductive type carrying its typed operands"), the six
data-format rows of the opcode table, and the command the host issues. -/

namespace Sys2Proof

/-- An RGB triple of 8-bit channels (R31). -/
structure RGB where
  r : Byte
  g : Byte
  b : Byte
deriving DecidableEq, Repr

/-- A pixel surface (R31): width, height and the pixels, row by row from the top, each row from the left.
`W` and `H` are stated apart from the pixels because a surface of height 0 still has a width (R77). -/
structure Surface where
  W : Nat
  H : Nat
  rows : List (List RGB)
deriving DecidableEq, Repr

/-- A finite map as a list of key and value pairs, keys strictly rising in the key's order (log 10). -/
abbrev PMap (κ ν : Type) := List (κ × ν)

/-- `Tile8` (R18): 64 colours, row-major. -/
abbrev Tile8 := List HwColor

/-- `Tile16` (R18): 256 colours, row-major. -/
abbrev Tile16 := List HwColor

/-- `CTile` (R20): 64 palette indices, row-major. -/
abbrev CTile := List Index

/-- `Palette` (R19): a partial map from colour to index. -/
abbrev Palette := PMap HwColor Index

/-- `PaletteTable` (R19): the palettes in order; the position is the palette id. -/
abbrev PaletteTable := List Palette

/-- `TmEntry` (R22). The field widths are the ranges of R49: 10, 3, 1 and 1 bits. -/
structure TmEntry where
  tileId : BitVec 10
  paletteId : BitVec 3
  hflip : Bool
  vflip : Bool
deriving DecidableEq, Repr

/-- Where an operand that may be one of the engine's stores comes from: the store as it stands, or a value
the host supplies. R28 allows both readings and says they agree (log 4). -/
inductive Src (α : Type) where
  | store
  | given (v : α)
deriving DecidableEq, Repr

/-- The instructions: one constructor per row of spec/opcode_table.json. The first seventeen are the
operations of R47 with their typed operands, the last six the data formats (R50 to R54, R121), which are
no operations (log 11). -/
inductive Instr where
  | quant (r g b : Byte)
  | xlin8 (S : Surface)
  | xlin16 (S : Surface)
  | xscr (S : Surface)
  | tprobe (S : Surface) (t : HwColor) (x0 y0 : Nat)
  | xlarge (S : Surface) (x0 y0 : Nat)
  | split16 (t : Tile16)
  | hflip16 (t : Tile16)
  | vflip16 (t : Tile16)
  | palbuild (P : Surface) (bpp : Nat)
  | palraw (L : List RGB)
  | convert (tiles : List Tile8) (table : Src PaletteTable)
  | pack (ts : Src (List CTile)) (bpp : Nat)
  | packlin (ts : Src (List CTile))
  | tmser (tm : Src (List TmEntry)) (pri : Bool)
  | tmsplit (tm : Src (List TmEntry)) (pri : Bool)
  | tmsplitc (tm : Src (List TmEntry)) (pri : Bool)
  | hwcolor (b5 g5 r5 : BitVec 5)
  | colorword (b5 g5 r5 : BitVec 5)
  | tmword (vflip hflip priority : Bool) (paletteId : BitVec 3) (tileId : BitVec 10)
  | tmbyte0 (tileIdLo : BitVec 8)
  | tmbyte1 (vflip hflip priority : Bool) (paletteId : BitVec 3) (tileIdHi : BitVec 2)
  | planebyte (x0 x1 x2 x3 x4 x5 x6 x7 : Bool)
deriving DecidableEq, Repr

/-- One typed operand, as the host hands it over beside the operation code (R48). -/
inductive Operand where
  | chan (v : Byte)
  | surface (S : Surface)
  | color (c : HwColor)
  | coord (n : Nat)
  | tile16 (t : Tile16)
  | bpp (n : Nat)
  | rgbs (L : List RGB)
  | tiles (l : List Tile8)
  | table (p : Src PaletteTable)
  | tileset (ts : Src (List CTile))
  | tilemap (tm : Src (List TmEntry))
  | pri (b : Bool)
deriving DecidableEq, Repr

/-- Which row of the opcode table a code word is to be read by: the operation format CMD (R48), or one of
the six data formats. The bits of a data word do not say which format they are in (R59: "the source
defines no decoder for any format"), so the format stands beside them (log 11). -/
inductive WordFormat where
  | cmd
  | hwcolor
  | colorword
  | tmword
  | tmbyte0
  | tmbyte1
  | planebyte
deriving DecidableEq, Repr

/-- What the host issues: a code word (its bytes, low byte first) and the typed operands in the order of
R47 (R48). -/
structure Command where
  format : WordFormat
  word : List Byte
  operands : List Operand
deriving DecidableEq, Repr

end Sys2Proof
end

