-- ==== Sys2Proof/WellFormed.lean ====
section
/-! DEFINITION. The operand ranges of R49, "checked before anything else", as decidable checks. Ranges
that the operand's type already fixes (`r`, `g`, `b`, `t`, `pri`, the fields of a `TmEntry`) need none. -/

namespace Sys2Proof

/-- A surface answers every (x, y) inside W×H and nothing else (R31, R154). -/
def Surface.ok (S : Surface) : Bool :=
  S.rows.length == S.H && S.rows.all (fun row => row.length == S.W)

/-- "every `Tile8` exactly 64 elements" (R49). -/
def tile8Ok (t : Tile8) : Bool := t.length == 64

/-- "every `Tile16` exactly 256" (R49). -/
def tile16Ok (t : Tile16) : Bool := t.length == 256

/-- "every `CTile` exactly 64 elements" (R49). -/
def ctileOk (c : CTile) : Bool := c.length == 64

/-- "`bpp` 1..8" (R7, R49). -/
def bppOk (n : Nat) : Bool := decide (1 ≤ n) && decide (n ≤ 8)

/-- The canonical form of a finite map: keys strictly rising (log 10). In particular no key stands twice. -/
def PMap.rising {κ ν : Type} (lt : κ → κ → Bool) : PMap κ ν → Bool
  | [] => true
  | [_] => true
  | (a, _) :: (b, w) :: m => lt a b && PMap.rising lt ((b, w) :: m)

/-- A palette is a partial map in canonical form (R19). -/
def paletteOk (m : Palette) : Bool := PMap.rising colorLt m

/-- "a `PaletteTable` with at most 8 palettes" (R91; R162 and U5: more is not an operand). The total number of
colours is not bounded here: a table of more than MAX_COLORS_HW = 256 colours (R8) is accepted, following R89 and
not N29 of spec/91_not_in_source.md (log 30). -/
def tableOk (table : PaletteTable) : Bool :=
  decide (table.length ≤ Config.maxPalettes) && table.all paletteOk

/-- Every tile of a tileset operand has 64 elements (R49, R108, R112). Its length is not bounded here: PACKLIN
raises CapacityError above 256 tiles (R112), PACK takes any number (log 29). -/
def tilesetOk (ts : List CTile) : Bool := ts.all ctileOk

/-- Every tile of CONVERT's input has 64 elements (R92). -/
def tilesOk (tiles : List Tile8) : Bool := tiles.all tile8Ok

/-- A check on an operand that may be a store: the value the host gives must pass; a store is the
engine's own. -/
def Src.ok {α : Type} (check : α → Bool) : Src α → Bool
  | .store => true
  | .given v => check v

/-- Every operand is in its declared range (R49). -/
def Instr.wellFormed : Instr → Bool
  | .quant _ _ _ => true
  | .xlin8 S => S.ok
  | .xlin16 S => S.ok
  | .xscr S => S.ok
  | .tprobe S _ _ _ => S.ok
  | .xlarge S _ _ => S.ok
  | .split16 t => tile16Ok t
  | .hflip16 t => tile16Ok t
  | .vflip16 t => tile16Ok t
  | .palbuild P bpp => P.ok && bppOk bpp
  | .palraw _ => true
  | .convert tiles table => tilesOk tiles && table.ok tableOk
  | .pack ts bpp => ts.ok tilesetOk && bppOk bpp
  | .packlin ts => ts.ok tilesetOk
  | .tmser _ _ => true
  | .tmsplit _ _ => true
  | .tmsplitc _ _ => true
  | .hwcolor _ _ _ => true
  | .colorword _ _ _ => true
  | .tmword _ _ _ _ _ => true
  | .tmbyte0 _ => true
  | .tmbyte1 _ _ _ _ _ => true
  | .planebyte _ _ _ _ _ _ _ _ => true

end Sys2Proof
end

