-- ==== Sys2Proof/Decode.lean ====
section
/-! DEFINITION. The decoder, from the code table of R47 and the formats of R50 to R54, and after it the
encoder, from the same tables. The decoder is total; it rejects by name. -/

namespace Sys2Proof

/-- The seventeen operations of R47, without their operands. -/
inductive OpCode where
  | quant | xlin8 | xlin16 | xscr | tprobe | xlarge | split16 | hflip16 | vflip16
  | palbuild | palraw | convert | pack | packlin | tmser | tmsplit | tmsplitc
deriving DecidableEq, Repr

/-- Why a command is no operation. -/
inductive DecodeError where
  /-- The code is none of the seventeen of R47 (R59: "a model's decoder refuses them"). Safe. -/
  | unknownCode (op : Byte)
  /-- The operands are not of the types, number and order R47 lists for the operation (R48, R49). Safe. -/
  | badOperands (op : OpCode)
  /-- The code word has not the size or the fixed bits of its format, or a data word comes with operands
  (R48, R50 to R52). Safe. -/
  | badWord (format : WordFormat)
deriving DecidableEq, Repr

/-- The code table of R47: all eight bits are matched (mask 0xFF, R48). -/
def codeTable : List (Byte × OpCode) :=
  [(0x00, .quant), (0x10, .xlin8), (0x11, .xlin16), (0x12, .xscr), (0x13, .tprobe), (0x14, .xlarge),
   (0x15, .split16), (0x16, .hflip16), (0x17, .vflip16), (0x20, .palbuild), (0x21, .palraw),
   (0x30, .convert), (0x40, .pack), (0x41, .packlin), (0x50, .tmser), (0x51, .tmsplit),
   (0x52, .tmsplitc)]

/-- The operation a code names, if it names one (R47, R59). -/
def opcodeOf (op : Byte) : Option OpCode :=
  (codeTable.find? (fun row => row.1 == op)).map (·.2)

/-- The code of an operation (R47). -/
def OpCode.code : OpCode → Byte
  | .quant => 0x00
  | .xlin8 => 0x10
  | .xlin16 => 0x11
  | .xscr => 0x12
  | .tprobe => 0x13
  | .xlarge => 0x14
  | .split16 => 0x15
  | .hflip16 => 0x16
  | .vflip16 => 0x17
  | .palbuild => 0x20
  | .palraw => 0x21
  | .convert => 0x30
  | .pack => 0x40
  | .packlin => 0x41
  | .tmser => 0x50
  | .tmsplit => 0x51
  | .tmsplitc => 0x52

/-- The operation with its typed operands "in the order rule R47 lists them" (R48). -/
def decodeOperands (op : OpCode) (operands : List Operand) : Except DecodeError Instr :=
  match op, operands with
  | .quant, [.chan r, .chan g, .chan b] => .ok (.quant r g b)
  | .xlin8, [.surface S] => .ok (.xlin8 S)
  | .xlin16, [.surface S] => .ok (.xlin16 S)
  | .xscr, [.surface S] => .ok (.xscr S)
  | .tprobe, [.surface S, .color t, .coord x0, .coord y0] => .ok (.tprobe S t x0 y0)
  | .xlarge, [.surface S, .coord x0, .coord y0] => .ok (.xlarge S x0 y0)
  | .split16, [.tile16 t] => .ok (.split16 t)
  | .hflip16, [.tile16 t] => .ok (.hflip16 t)
  | .vflip16, [.tile16 t] => .ok (.vflip16 t)
  | .palbuild, [.surface P, .bpp n] => .ok (.palbuild P n)
  | .palraw, [.rgbs L] => .ok (.palraw L)
  | .convert, [.tiles l, .table p] => .ok (.convert l p)
  | .pack, [.tileset ts, .bpp n] => .ok (.pack ts n)
  | .packlin, [.tileset ts] => .ok (.packlin ts)
  | .tmser, [.tilemap tm, .pri b] => .ok (.tmser tm b)
  | .tmsplit, [.tilemap tm, .pri b] => .ok (.tmsplit tm b)
  | .tmsplitc, [.tilemap tm, .pri b] => .ok (.tmsplitc tm b)
  | op, _ => .error (.badOperands op)

/-- A one-byte operation code and its operands (format CMD, R48). -/
def decodeCmd (op : Byte) (operands : List Operand) : Except DecodeError Instr :=
  match opcodeOf op with
  | some o => decodeOperands o operands
  | none => .error (.unknownCode op)

/-- Two bytes as a 16-bit word, low byte first (R37). -/
def wordLE (lo hi : Byte) : BitVec 16 := hi ++ lo

/-- Bits `[9:5]` and so on: a field of `n` bits from bit `lo` (00_scope.md 5.1). -/
def bits {w : Nat} (v : BitVec w) (lo n : Nat) : BitVec n := v.extractLsb' lo n

/-- HWCOLOR, "BBBBBGGGGGRRRRR" (R50): 15 bits, so bit 15 of the two bytes that hold them is 0. -/
def decodeHwcolor (v : BitVec 16) : Except DecodeError Instr :=
  if v.getLsbD 15 then .error (.badWord .hwcolor)
  else .ok (.hwcolor (bits v 10 5) (bits v 5 5) (bits v 0 5))

/-- COLORWORD, "0BBBBBGGGGGRRRRR" (R51). -/
def decodeColorword (v : BitVec 16) : Except DecodeError Instr :=
  if v.getLsbD 15 then .error (.badWord .colorword)
  else .ok (.colorword (bits v 10 5) (bits v 5 5) (bits v 0 5))

/-- TMWORD, "VHPCCCTTTTTTTTTT" (R52). -/
def decodeTmword (v : BitVec 16) : Instr :=
  .tmword (v.getLsbD 15) (v.getLsbD 14) (v.getLsbD 13) (bits v 10 3) (bits v 0 10)

/-- TMBYTE1, "VHPCCCTT" (R52, R121). -/
def decodeTmbyte1 (v : Byte) : Instr :=
  .tmbyte1 (v.getLsbD 7) (v.getLsbD 6) (v.getLsbD 5) (bits v 2 3) (bits v 0 2)

/-- PLANEBYTE, "abcdefgh" (R38, R109): the pixel in column x in bit `7 - x`. -/
def decodePlanebyte (v : Byte) : Instr :=
  .planebyte (v.getLsbD 7) (v.getLsbD 6) (v.getLsbD 5) (v.getLsbD 4)
    (v.getLsbD 3) (v.getLsbD 2) (v.getLsbD 1) (v.getLsbD 0)

/-- The decoder. A CMD word is one byte; a data word has the bytes of its format and no operands; anything else is rejected by the format's name. -/
def decode (c : Command) : Except DecodeError Instr :=
  match c.format, c.word, c.operands with
  | .cmd, [op], operands => decodeCmd op operands
  | .hwcolor, [lo, hi], [] => decodeHwcolor (wordLE lo hi)
  | .colorword, [lo, hi], [] => decodeColorword (wordLE lo hi)
  | .tmword, [lo, hi], [] => .ok (decodeTmword (wordLE lo hi))
  | .tmbyte0, [v], [] => .ok (.tmbyte0 v)
  | .tmbyte1, [v], [] => .ok (decodeTmbyte1 v)
  | .planebyte, [v], [] => .ok (decodePlanebyte v)
  | f, _, _ => .error (.badWord f)

/-! ## The encoder -/

/-- A CMD command: the operation's code and its operands. -/
def cmdOf (op : OpCode) (operands : List Operand) : Command :=
  { format := .cmd, word := [op.code], operands := operands }

/-- A data word of 16 bits, low byte first. -/
def dataLE (f : WordFormat) (v : BitVec 16) : Command :=
  { format := f, word := [bits v 0 8, bits v 8 8], operands := [] }

/-- A data word of one byte. -/
def dataByte (f : WordFormat) (v : Byte) : Command :=
  { format := f, word := [v], operands := [] }

/-- The 15-bit colour word of its fields (R50): `{b5, g5, r5}`. -/
def colorBits (b5 g5 r5 : BitVec 5) : BitVec 15 := (b5 ++ g5) ++ r5

/-- The 16-bit tilemap word of its fields (R52): `{vflip, hflip, priority, palette_id, tile_id}`. -/
def tmwordBits (vflip hflip priority : Bool) (paletteId : BitVec 3) (tileId : BitVec 10) : BitVec 16 :=
  ((((BitVec.ofBool vflip ++ BitVec.ofBool hflip) ++ BitVec.ofBool priority) ++ paletteId) ++ tileId)

/-- byte1 of a tilemap word from its fields (R52): `{vflip, hflip, priority, palette_id, tile_id[9:8]}`. -/
def tmbyte1Bits (vflip hflip priority : Bool) (paletteId : BitVec 3) (tileIdHi : BitVec 2) : Byte :=
  ((((BitVec.ofBool vflip ++ BitVec.ofBool hflip) ++ BitVec.ofBool priority) ++ paletteId) ++ tileIdHi)

/-- A bitplane byte from its eight pixels, leftmost in the most significant bit (R38). -/
def planeBits (x0 x1 x2 x3 x4 x5 x6 x7 : Bool) : Byte :=
  (((((((BitVec.ofBool x0 ++ BitVec.ofBool x1) ++ BitVec.ofBool x2) ++ BitVec.ofBool x3) ++ BitVec.ofBool x4)
    ++ BitVec.ofBool x5) ++ BitVec.ofBool x6) ++ BitVec.ofBool x7)

/-- The command that stands for an instruction: code and operands of an operation (R47, R48), the word of
a data format (R50 to R52, R54). -/
def encode : Instr → Command
  | .quant r g b => cmdOf .quant [.chan r, .chan g, .chan b]
  | .xlin8 S => cmdOf .xlin8 [.surface S]
  | .xlin16 S => cmdOf .xlin16 [.surface S]
  | .xscr S => cmdOf .xscr [.surface S]
  | .tprobe S t x0 y0 => cmdOf .tprobe [.surface S, .color t, .coord x0, .coord y0]
  | .xlarge S x0 y0 => cmdOf .xlarge [.surface S, .coord x0, .coord y0]
  | .split16 t => cmdOf .split16 [.tile16 t]
  | .hflip16 t => cmdOf .hflip16 [.tile16 t]
  | .vflip16 t => cmdOf .vflip16 [.tile16 t]
  | .palbuild P n => cmdOf .palbuild [.surface P, .bpp n]
  | .palraw L => cmdOf .palraw [.rgbs L]
  | .convert l p => cmdOf .convert [.tiles l, .table p]
  | .pack ts n => cmdOf .pack [.tileset ts, .bpp n]
  | .packlin ts => cmdOf .packlin [.tileset ts]
  | .tmser tm b => cmdOf .tmser [.tilemap tm, .pri b]
  | .tmsplit tm b => cmdOf .tmsplit [.tilemap tm, .pri b]
  | .tmsplitc tm b => cmdOf .tmsplitc [.tilemap tm, .pri b]
  | .hwcolor b5 g5 r5 => dataLE .hwcolor ((colorBits b5 g5 r5).setWidth 16)
  | .colorword b5 g5 r5 => dataLE .colorword ((colorBits b5 g5 r5).setWidth 16)
  | .tmword v h p c t => dataLE .tmword (tmwordBits v h p c t)
  | .tmbyte0 t => dataByte .tmbyte0 t
  | .tmbyte1 v h p c t => dataByte .tmbyte1 (tmbyte1Bits v h p c t)
  | .planebyte x0 x1 x2 x3 x4 x5 x6 x7 => dataByte .planebyte (planeBits x0 x1 x2 x3 x4 x5 x6 x7)

/-! ## Words as the opcode table numbers them -/

/-- The operands that stand for "operand words of zeros" where only a code is given (log 2): zero channels,
coordinates and colours, the 0×0 surface, the large tile of zeros, empty sequences, the engine's own
stores, `pri` 0, and for `bpp`, which has no zero (R7), its least value 1. -/
def zeroOperands : OpCode → List Operand
  | .quant => [.chan 0, .chan 0, .chan 0]
  | .xlin8 => [.surface ⟨0, 0, []⟩]
  | .xlin16 => [.surface ⟨0, 0, []⟩]
  | .xscr => [.surface ⟨0, 0, []⟩]
  | .tprobe => [.surface ⟨0, 0, []⟩, .color 0, .coord 0, .coord 0]
  | .xlarge => [.surface ⟨0, 0, []⟩, .coord 0, .coord 0]
  | .split16 => [.tile16 (List.replicate 256 0)]
  | .hflip16 => [.tile16 (List.replicate 256 0)]
  | .vflip16 => [.tile16 (List.replicate 256 0)]
  | .palbuild => [.surface ⟨0, 0, []⟩, .bpp 1]
  | .palraw => [.rgbs []]
  | .convert => [.tiles [], .table .store]
  | .pack => [.tileset .store, .bpp 1]
  | .packlin => [.tileset .store]
  | .tmser => [.tilemap .store, .pri false]
  | .tmsplit => [.tilemap .store, .pri false]
  | .tmsplitc => [.tilemap .store, .pri false]

/-- The operands beside a bare code word: zeros for an operation's code, none for a code that names none. -/
def operandsFor (op : Byte) : List Operand :=
  match opcodeOf op with
  | some o => zeroOperands o
  | none => []

/-- The command of a bare table word of `nbits` bits (log 2, log 11): up to 8 bits an operation code (R48);
15 bits a HWCOLOR; otherwise two bytes, a COLORWORD where bit 15 is the 0 that format fixes and a TMWORD
where it is 1. -/
def commandOfBits (nbits w : Nat) : Command :=
  if nbits ≤ 8 then
    { format := .cmd, word := [BitVec.ofNat 8 w], operands := operandsFor (BitVec.ofNat 8 w) }
  else if nbits = 15 then dataLE .hwcolor (BitVec.ofNat 16 w)
  else if (BitVec.ofNat 16 w).getLsbD 15 then dataLE .tmword (BitVec.ofNat 16 w)
  else dataLE .colorword (BitVec.ofNat 16 w)

/-- The instruction the decoder reads from a bare table word, none where it refuses. -/
def decodeTableWord (nbits w : Nat) : Option Instr :=
  match decode (commandOfBits nbits w) with
  | .ok i => some i
  | .error _ => none

end Sys2Proof
end

