-- ==== Sys2Proof/Machine/State.lean ====
section
/-! DEFINITION. The engine's state (R12: six stores), the host interface beside it, results, faults and
refusals, and the state after reset (R29, R151). -/

namespace Sys2Proof.Machine

open Sys2Proof

/-- What LUT stores for a key: `(tile_id, hflip, vflip)` (R23). -/
structure LutEntry where
  tileId : BitVec 10
  hflip : Bool
  vflip : Bool
deriving DecidableEq, Repr

/-- The error kinds of R131. -/
inductive ErrKind where
  | validation
  | paletteMatch
  | capacity
  | format
deriving DecidableEq, Repr

/-- The check that failed: the argument of `raise` in the pseudocode of the operation rules. U6: its
content is not described by the source and no claim may depend on it (log 9). -/
inductive Check where
  | size
  | position
  | imageWidth
  | colourCount
  | tileCount
  | linearTileCount
deriving DecidableEq, Repr

/-- The `info` of an error (R130, R131). -/
inductive ErrInfo where
  | failed (check : Check)
  | positions (inv : List Nat)
deriving DecidableEq, Repr

/-- The value of an `Ok` result, one constructor per result type of R47. -/
inductive Value where
  | color (c : HwColor)
  | tiles8 (l : List Tile8)
  | tiles16 (l : List Tile16)
  | bool (b : Bool)
  | tile16 (t : Tile16)
  | quads (tl tr bl br : Tile8)
  | table (t : PaletteTable)
  | bytes (buf : Bytes)
  | converted (tm : List TmEntry) (ts : List CTile)
  | buffers (lo hi : Bytes)
deriving DecidableEq, Repr

/-- "Every operation completes with a `Result`: `Ok(value)` or `Err(kind, info)`" (R130). -/
inductive OpResult where
  | ok (v : Value)
  | err (kind : ErrKind) (info : ErrInfo)
deriving DecidableEq, Repr

/-- The state. The first six fields are the engine's stores (R12, R19 to R25); `inbox` and `outbox` are the
host's side of R11 (log 1); `maxColors` is the parameter MAX_COLORS of R9 (log 6). -/
structure State where
  pt : PaletteTable
  ts : List CTile
  tm : List TmEntry
  lut : PMap CTile LutEntry
  inv : List Nat
  pos : Nat
  inbox : List Command
  outbox : List OpResult
  maxColors : Nat
deriving DecidableEq, Repr

/-- The machine stops. -/
inductive Fault where
  /-- The failed assertion of the serializers (R120, R133). Raised by TMSER, TMSPLIT and TMSPLITC on a
  tilemap whose length is not a multiple of 1024; no output, no state change. Safe. -/
  | contractViolation
deriving DecidableEq, Repr

/-- The model gives the command no meaning (R144). -/
inductive Refusal where
  /-- An instruction without a meaning, raised by an arm of `exec`. Safe. -/
  | notModelled (mnemonic : String)
  /-- An operand outside its declared range (R49: refused "before the operation starts, with no state
  change"); raised by the meaning of the operation named. Safe. -/
  | operandRange (mnemonic : String)
  /-- TPROBE or XLARGE at a position inside the surface but not a multiple of the tile size (R69, R70, U3).
  Safe. -/
  | unalignedPosition (mnemonic : String)
  /-- A data word issued as an operation: the row of the table is a data format, not an operation (R47,
  R59, R143). Raised by the meaning of the six data rows. Safe. -/
  | dataFormat (mnemonic : String)
  /-- A command that decodes to no instruction (R59); raised by `step`. Safe. -/
  | undecodable (e : DecodeError)
deriving DecidableEq, Repr

/-- After reset every store is empty and POS is 0 (R29, R151). The host has issued and received nothing
(log 1), and MAX_COLORS has the default R9 suggests (log 6). -/
def State.reset : State :=
  { pt := [], ts := [], tm := [], lut := [], inv := [], pos := 0,
    inbox := [], outbox := [], maxColors := Config.defaultMaxColors }

end Sys2Proof.Machine
end

