-- ==== Sys2Proof/Machine/Ops.lean ====
section
/-! DEFINITION. The shared operations: finite maps, the stores, surfaces and blocks, the completion of an
operation, and raising an error (the engine's only exception mechanism, R130 to R138). There is no return
from an error (R140) and no saved context (R136).

The write primitive `Emit` (R35) appends one byte to the end of a buffer that starts empty. Since a buffer
is never read back and is visible only in an `Ok` result (R34, R35, R137), the meanings write the buffer as
the list of the emitted bytes in order. -/

namespace Sys2Proof.Machine

open Sys2Proof

/-! ## Finite maps in canonical form (log 10) -/

/-- `m[k]`, where `k` is in `dom(m)` (00_scope.md 5.1). -/
def mapLookup {κ ν : Type} [DecidableEq κ] (k : κ) : PMap κ ν → Option ν
  | [] => none
  | (k', v) :: m => if k = k' then some v else mapLookup k m

/-- `k in dom(m)`. -/
def inDom {κ ν : Type} [DecidableEq κ] (k : κ) (m : PMap κ ν) : Bool := (mapLookup k m).isSome

/-- `m[k] <- v`, keeping the keys rising. -/
def mapInsert {κ ν : Type} [DecidableEq κ] (lt : κ → κ → Bool) (k : κ) (v : ν) : PMap κ ν → PMap κ ν
  | [] => [(k, v)]
  | (k', v') :: m =>
    if lt k k' then (k, v) :: (k', v') :: m
    else if k = k' then (k, v) :: m
    else (k', v') :: mapInsert lt k v m

/-- "if key not in dom(m): m[key] <- value": the first writer wins (R81, R98, R103). -/
def insertNew {κ ν : Type} [DecidableEq κ] (lt : κ → κ → Bool) (k : κ) (v : ν) (m : PMap κ ν) : PMap κ ν :=
  if inDom k m then m else mapInsert lt k v m

/-! ## Completion of an operation, and errors -/

/-- Hand a result to the host (R11, R130). -/
def State.deliver (r : OpResult) (s : State) : State := { s with outbox := s.outbox ++ [r] }

/-- CONVERT's stores at their reset values: TS, TM, LUT, INV empty and POS 0 (R29, R98, R138). -/
def State.clearPass (s : State) : State := { s with ts := [], tm := [], lut := [], inv := [], pos := 0 }

/-- `return v`: the operation completes with `Ok(v)`, leaving the stores at `s` (R130). -/
def succeed (v : Value) (s : State) : Host.Outcome State Fault Refusal :=
  .next (s.deliver (.ok v))

/-- `raise kind(info)`: the operation stops and `Err(kind, info)` is its result; no output of it becomes
visible (R136, R137). `s` is the state R138 gives: the stores untouched, but for CONVERT its own stores at
their reset values. An error is a defined result, so the outcome is a next state (R144). -/
def raise (kind : ErrKind) (info : ErrInfo) (s : State) : Host.Outcome State Fault Refusal :=
  .next (s.deliver (.err kind info))

/-- The numeric code of an error kind (R130, R131). -/
def errKindCode : ErrKind → Nat
  | .validation => 1
  | .paletteMatch => 2
  | .capacity => 3
  | .format => 4

/-- The numeric code of a result: 0 for `Ok` (R130). -/
def resultCode : OpResult → Nat
  | .ok _ => 0
  | .err k _ => errKindCode k

/-! ## The host's next operation -/

/-- The engine accepts the host's next operation, if the host has issued one (R11, R43). -/
def takeCommand (s : State) : Option (Command × State) :=
  match s.inbox with
  | [] => none
  | c :: rest => some (c, { s with inbox := rest })

/-! ## Surfaces and blocks -/

/-- `SurfRead(S, x, y)` (R32): the triple at (x, y), and no value outside the surface. -/
def surfRead (S : Surface) (x y : Nat) : Option RGB :=
  if x < S.W ∧ y < S.H then (S.rows[y]?).bind (fun row => row[x]?) else none

/-- `in_bounds(S, x0, y0, n)` (R71). -/
def inBounds (S : Surface) (x0 y0 n : Nat) : Bool := decide (x0 + n ≤ S.W) && decide (y0 + n ≤ S.H)

/-- The positions (x, y) of a `w`×`h` block in row-major order (00_scope.md 5.1). -/
def blockCoords (w h : Nat) : List (Nat × Nat) :=
  (List.range h).flatMap (fun y => (List.range w).map (fun x => (x, y)))

/-- The elements of `t` at the given indices, in the order of the indices: an "index permutation, never a
value transform" (R97). -/
def pick {α : Type} (t : List α) (indices : List Nat) : List α := indices.filterMap (fun i => t[i]?)

end Sys2Proof.Machine
end

