-- ==== Sys2Proof/Machine/Operands.lean ====
section
/-! DEFINITION. Operand forms: an operand that may be a store (R28), and the range checks made "before
anything else" (R49). -/

namespace Sys2Proof.Machine

open Sys2Proof

/-- The value of an operand that is the store `stored` or given by the host (R28; log 4). -/
def srcValue {α : Type} (stored : α) : Src α → α
  | .store => stored
  | .given v => v

/-- Refuse the operation, with no state change, unless its operands are in range (R49); else go on. -/
def withOperands (mnemonic : String) (inRange : Bool) (run : Host.Outcome State Fault Refusal) :
    Host.Outcome State Fault Refusal :=
  if inRange then run else .refused (.operandRange mnemonic)

/-- A block operation's position (R40, R69, R70): a block not wholly inside the surface is a
ValidationError; a position inside but not a multiple of the block's side is refused (U3; log 8). -/
def withBlock (mnemonic : String) (S : Surface) (x0 y0 n : Nat) (s : State)
    (run : Host.Outcome State Fault Refusal) : Host.Outcome State Fault Refusal :=
  if inBounds S x0 y0 n then
    if x0 % n = 0 ∧ y0 % n = 0 then run else .refused (.unalignedPosition mnemonic)
  else raise .validation (.failed .position) s

/-- `check_len(TM)` (R120): the serializers' length assertion. Its failure is a fault, with no output and no
state change (R133). -/
def withTilemapLength (tm : List TmEntry) (run : Host.Outcome State Fault Refusal) :
    Host.Outcome State Fault Refusal :=
  if tm.length % Config.tmBlock = 0 then run else .fault .contractViolation

end Sys2Proof.Machine
end

