-- ==== Sys2Proof/Machine/Flags.lean ====
section
/-! DEFINITION. The one-bit values of R27: `hflip` and `vflip` of a tilemap entry and the operand
`highPriorityFlag`. The engine has no condition codes and no status flags (R27). -/

namespace Sys2Proof.Machine

open Sys2Proof

/-- "A Boolean used as a number is 1 for true and 0 for false" (R121). -/
def flagByte (b : Bool) : Byte := if b then 1 else 0

/-- The flag bits of byte1: `(pri << 5) | (hflip << 6) | (vflip << 7)` (R121). -/
def flagBits (pri hflip vflip : Bool) : Byte :=
  (flagByte pri <<< 5) ||| (flagByte hflip <<< 6) ||| (flagByte vflip <<< 7)

end Sys2Proof.Machine
end

