-- ==== Sys2Proof/Machine/Quantizer.lean ====
section
/-! DEFINITION. Color Quantizer: `quantize` (R61) and QUANT. -/

namespace Sys2Proof.Machine

open Sys2Proof

/-- `quantize(r, g, b)` (R61): `(b5 << 10) | (g5 << 5) | r5` with `c5 = c >> 3`. -/
def quantize (p : RGB) : HwColor :=
  ((p.b >>> 3).setWidth 15 <<< 10) ||| ((p.g >>> 3).setWidth 15 <<< 5) ||| (p.r >>> 3).setWidth 15

/-- QUANT (R61). No store is read or written; no error. -/
def execQuant (r g b : Byte) (s : State) : Host.Outcome State Fault Refusal :=
  succeed (.color (quantize ⟨r, g, b⟩)) s

end Sys2Proof.Machine
end

