-- ==== Sys2Proof/Machine/Extractor.lean ====
section
/-! DEFINITION. Tile Extractor: XLIN8, XLIN16, XSCR, TPROBE, XLARGE, SPLIT16, HFLIP16, VFLIP16
(spec/41_extractor.md). It reads a surface or a tile operand and no store. -/

namespace Sys2Proof.Machine

open Sys2Proof

/-- The `n`×`n` block of quantized colours with top-left pixel (x0, y0), row-major (R64 for n = 8, R65 for
n = 16). Defined for blocks inside the surface; a read outside has no value (R32) and adds no element. -/
def extractBlock (S : Surface) (n x0 y0 : Nat) : List HwColor :=
  (blockCoords n n).filterMap (fun c => (surfRead S (x0 + c.1) (y0 + c.2)).map quantize)

/-- `extract_small(S, x0, y0)` (R64). -/
def extractSmall (S : Surface) (x0 y0 : Nat) : Tile8 := extractBlock S Config.tile x0 y0

/-- `extract_large(S, x0, y0)` (R65). -/
def extractLarge (S : Surface) (x0 y0 : Nat) : Tile16 := extractBlock S Config.ltile x0 y0

/-- The tiles of side `n` of a surface in raster order (R66, R67). -/
def rasterTiles (n : Nat) (S : Surface) : List (List HwColor) :=
  (blockCoords (S.W / n) (S.H / n)).map (fun c => extractBlock S n (n * c.1) (n * c.2))

/-- The 32×32 tiles of the screen at screen column `sx` and screen row `sy`, row-major (R68). -/
def screenTiles (S : Surface) (sx sy : Nat) : List Tile8 :=
  (blockCoords Config.screenT Config.screenT).map
    (fun c => extractSmall S (Config.screenPx * sx + Config.tile * c.1) (Config.screenPx * sy + Config.tile * c.2))

/-- The tiles of a surface in screen-block order: screens row-major, then tiles row-major (R68). -/
def screenOrderTiles (S : Surface) : List Tile8 :=
  (blockCoords (S.W / Config.screenPx) (S.H / Config.screenPx)).flatMap (fun c => screenTiles S c.1 c.2)

/-- XLIN8 (R66). -/
def execXlin8 (S : Surface) (s : State) : Host.Outcome State Fault Refusal :=
  withOperands "XLIN8" S.ok <|
    if S.W % Config.tile ≠ 0 ∨ S.H % Config.tile ≠ 0 then raise .validation (.failed .size) s
    else succeed (.tiles8 (rasterTiles Config.tile S)) s

/-- XLIN16 (R67). -/
def execXlin16 (S : Surface) (s : State) : Host.Outcome State Fault Refusal :=
  withOperands "XLIN16" S.ok <|
    if S.W % Config.ltile ≠ 0 ∨ S.H % Config.ltile ≠ 0 then raise .validation (.failed .size) s
    else succeed (.tiles16 (rasterTiles Config.ltile S)) s

/-- XSCR (R68). -/
def execXscr (S : Surface) (s : State) : Host.Outcome State Fault Refusal :=
  withOperands "XSCR" S.ok <|
    if S.W % Config.screenPx ≠ 0 ∨ S.H % Config.screenPx ≠ 0 then raise .validation (.failed .size) s
    else if S.W > Config.maxScrPx ∨ S.H > Config.maxScrPx then raise .validation (.failed .size) s
    else succeed (.tiles8 (screenOrderTiles S)) s

/-- TPROBE (R69): whether any pixel of the 8×8 block, quantized, differs from `t`. -/
def execTprobe (S : Surface) (t : HwColor) (x0 y0 : Nat) (s : State) : Host.Outcome State Fault Refusal :=
  withOperands "TPROBE" S.ok <|
    withBlock "TPROBE" S x0 y0 Config.tile s <|
      succeed (.bool ((extractSmall S x0 y0).any (fun c => c != t))) s

/-- XLARGE (R70). -/
def execXlarge (S : Surface) (x0 y0 : Nat) (s : State) : Host.Outcome State Fault Refusal :=
  withOperands "XLARGE" S.ok <|
    withBlock "XLARGE" S x0 y0 Config.ltile s <|
      succeed (.tile16 (extractLarge S x0 y0)) s

/-- `quad(qx, qy)` of SPLIT16 (R72): element `8*y + x` is `t[16*(8*qy + y) + (8*qx + x)]`. -/
def quad {α : Type} (t : List α) (qx qy : Nat) : List α :=
  pick t ((blockCoords 8 8).map (fun c => 16 * (8 * qy + c.2) + (8 * qx + c.1)))

/-- SPLIT16 (R72): top-left, top-right, bottom-left, bottom-right. -/
def execSplit16 (t : Tile16) (s : State) : Host.Outcome State Fault Refusal :=
  withOperands "SPLIT16" (tile16Ok t) <|
    succeed (.quads (quad t 0 0) (quad t 1 0) (quad t 0 1) (quad t 1 1)) s

/-- The horizontal mirror of an `n`×`n` block: "reverses column order within each row" (R74, R96). -/
def hflipBlock {α : Type} (n : Nat) (t : List α) : List α :=
  pick t ((blockCoords n n).map (fun c => n * c.2 + (n - 1 - c.1)))

/-- The vertical mirror of an `n`×`n` block: "reverses row order within the block" (R75, R97). -/
def vflipBlock {α : Type} (n : Nat) (t : List α) : List α :=
  pick t ((blockCoords n n).map (fun c => n * (n - 1 - c.2) + c.1))

/-- `hflip16` (R74). -/
def hflip16 {α : Type} (t : List α) : List α := hflipBlock 16 t

/-- `vflip16` (R75). -/
def vflip16 {α : Type} (t : List α) : List α := vflipBlock 16 t

/-- HFLIP16 (R74). -/
def execHflip16 (t : Tile16) (s : State) : Host.Outcome State Fault Refusal :=
  withOperands "HFLIP16" (tile16Ok t) <| succeed (.tile16 (hflip16 t)) s

/-- VFLIP16 (R75). -/
def execVflip16 (t : Tile16) (s : State) : Host.Outcome State Fault Refusal :=
  withOperands "VFLIP16" (tile16Ok t) <| succeed (.tile16 (vflip16 t)) s

end Sys2Proof.Machine
end

