-- ==== Sys2Proof/Machine/Palettes.lean ====
section
/-! DEFINITION. Palette Table Builder: PALBUILD and PALRAW (spec/42_palette.md). -/

namespace Sys2Proof.Machine

open Sys2Proof

/-- `scan_colors(P)` (R80): every pixel quantized, left to right, top to bottom. -/
def scanColors (P : Surface) : List HwColor :=
  (blockCoords P.W P.H).filterMap (fun c => (surfRead P c.1 c.2).map quantize)

/-- One palette from the colours of its group: each colour not yet a key gets its offset `i` in the group,
so the first occurrence wins (R81; that the index is the offset is D8, log 12). -/
def buildPalette : List HwColor → Nat → Palette → Palette
  | [], _, m => m
  | c :: cs, i, m => buildPalette cs (i + 1) (insertNew colorLt c (BitVec.ofNat 8 i) m)

/-- The number of groups of `n` that `k` colours make, the last possibly partial (R81, R83). -/
def groupCount (k n : Nat) : Nat := (k + n - 1) / n

/-- `group_palettes(cols, n)` (R81): palette `g` is built from `cols[g*n .. g*n + n - 1]`. -/
def groupPalettes (cols : List HwColor) (n : Nat) : PaletteTable :=
  (List.range (groupCount cols.length n)).map (fun g => buildPalette ((cols.drop (g * n)).take n) 0 [])

/-- `min(2^bpp * 8, 256)`: the pixel limit of a palette image (R79, R82). -/
def pixelLimit (bpp : Nat) : Nat := min (2 ^ bpp * Config.maxPalettes) Config.maxColorsHw

/-- PALBUILD (R79): width first, then the pixel count (R135). PT is replaced as a whole on success and left
as it was on error (R138). -/
def execPalbuild (P : Surface) (bpp : Nat) (s : State) : Host.Outcome State Fault Refusal :=
  withOperands "PALBUILD" (P.ok && bppOk bpp) <|
    if P.W ≠ Config.palW then raise .validation (.failed .imageWidth) s
    else if P.W * P.H > pixelLimit bpp then raise .capacity (.failed .colourCount) s
    else succeed (.table (groupPalettes (scanColors P) (2 ^ bpp)))
      { s with pt := groupPalettes (scanColors P) (2 ^ bpp) }

/-- The colour byte pair (R51): low byte, then high byte, bit 15 zero. -/
def colorBytes (c : HwColor) : Bytes :=
  [(c &&& 0xFF).setWidth 8, (c >>> 8).setWidth 8]

/-- PALRAW (R85): two bytes per list element, in order; a list longer than MAX_COLORS (R9) is a
CapacityError. -/
def execPalraw (L : List RGB) (s : State) : Host.Outcome State Fault Refusal :=
  if L.length > s.maxColors then raise .capacity (.failed .colourCount) s
  else succeed (.bytes (L.flatMap (fun p => colorBytes (quantize p)))) s

end Sys2Proof.Machine
end

