-- ==== Sys2Proof/Machine/Dedup.lean ====
section
/-! DEFINITION. Tile Deduplicator: CONVERT (spec/43_dedup.md). -/

namespace Sys2Proof.Machine

open Sys2Proof

/-- `covers(m, t)` (R93): every colour of the tile is a key of the palette. -/
def covers (m : Palette) (t : Tile8) : Bool := t.all (fun c => inDom c m)

/-- `hflip8` (R96). -/
def hflip8 {α : Type} (t : List α) : List α := hflipBlock 8 t

/-- `vflip8` (R97). -/
def vflip8 {α : Type} (t : List α) : List α := vflipBlock 8 t

/-- `hvflip8(t) = vflip8(hflip8(t))` (R94). -/
def hvflip8 {α : Type} (t : List α) : List α := vflip8 (hflip8 t)

/-- `flip(t, h, v)` (R94): `hflip8` applied when `h`, then `vflip8` when `v`. -/
def flipTile {α : Type} (t : List α) (h v : Bool) : List α :=
  let t' := if h then hflip8 t else t
  if v then vflip8 t' else t'

/-- Step 1 (R99): the first palette, in index order, that covers the tile, with its index. -/
def choosePalette (table : PaletteTable) (t : Tile8) : Option (Palette × Nat) :=
  table.zipIdx.find? (fun p => covers p.1 t)

/-- Step 2 (R100): each colour replaced by its index under the selected palette. -/
def mapTile (m : Palette) (t : Tile8) : CTile := t.filterMap (fun c => mapLookup c m)

/-- `register(key, value)` (R98, R103): a key already present keeps its value. -/
def register (k : CTile) (tid : BitVec 10) (h v : Bool) (lut : PMap CTile LutEntry) : PMap CTile LutEntry :=
  insertNew bytesLt k ⟨tid, h, v⟩ lut

/-- The four registrations of a new tile, in the order R103 lists them. -/
def registerMirrors (c : CTile) (tid : BitVec 10) (lut : PMap CTile LutEntry) : PMap CTile LutEntry :=
  register (hvflip8 c) tid true true
    (register (vflip8 c) tid false true
      (register (hflip8 c) tid true false
        (register c tid false false lut)))

/-- Step 4 (R104): append the entry of this tile position. -/
def emitEntry (e : LutEntry) (pid : Nat) (s : State) : State :=
  { s with tm := s.tm ++ [⟨e.tileId, BitVec.ofNat 3 pid, e.hflip, e.vflip⟩] }

/-- Steps 3 and 4 (R101 to R104) for a candidate of palette `pid`; none is the CapacityError of R102. -/
def placeCandidate (cand : CTile) (pid : Nat) (s : State) : Option State :=
  match mapLookup cand s.lut with
  | some e => some (emitEntry e pid s)
  | none =>
    if s.ts.length = Config.maxTiles then none
    else
      let tid := BitVec.ofNat 10 s.ts.length
      some (emitEntry ⟨tid, false, false⟩ pid
        { s with ts := s.ts ++ [cand], lut := registerMirrors cand tid s.lut })

/-- One pass of CONVERT's loop (R98), POS advanced at its end (R25). A tile no palette covers is recorded in
INV and steps 2 to 4 are skipped (R99, R105). None is the CapacityError of R102. -/
def convertTile (table : PaletteTable) (t : Tile8) (s : State) : Option State :=
  match choosePalette table t with
  | none => some { s with inv := s.inv ++ [s.pos], pos := s.pos + 1 }
  | some (m, pid) => (placeCandidate (mapTile m t) pid s).map (fun s' => { s' with pos := s'.pos + 1 })

/-- CONVERT's loop over the tiles, "strictly in input order" (R98, R44); it ends at the first
CapacityError (R102). -/
def convertTiles (table : PaletteTable) : List Tile8 → State → Option State
  | [], s => some s
  | t :: rest, s =>
    match convertTile table t s with
    | some s' => convertTiles table rest s'
    | none => none

/-- CONVERT (R98). An error leaves TS, TM, LUT, INV and POS at their reset values and PT as it was (R138). A
given table of more than 256 colours in total is accepted (R89; log 30). -/
def execConvert (tiles : List Tile8) (table : Src PaletteTable) (s : State) : Host.Outcome State Fault Refusal :=
  withOperands "CONVERT" (tilesOk tiles && tableOk (srcValue s.pt table)) <|
    match convertTiles (srcValue s.pt table) tiles s.clearPass with
    | none => raise .capacity (.failed .tileCount) s.clearPass
    | some s' =>
      if s'.inv = [] then succeed (.converted s'.tm s'.ts) s'
      else raise .paletteMatch (.positions s'.inv) s.clearPass

end Sys2Proof.Machine
end

