-- ==== Sys2Proof/Machine/Packer.lean ====
section
/-! DEFINITION. Bitplane Packer: PACK and PACKLIN (spec/44_packer.md), and `unpack_tile` (R114), which is no
operation of the engine. -/

namespace Sys2Proof.Machine

open Sys2Proof

/-- `(p[8*y + x] >> plane) & 1` (R109). -/
def planeBit (p : CTile) (y plane x : Nat) : Bool := (p.getD (8 * y + x) 0).getLsbD plane

/-- The byte of row `y` and one plane: eight times `byte = ((byte << 1) & 0xFF) | bit` from 0, columns left
to right, so the leftmost pixel ends in bit 7 (R38, R109). -/
def planeByte (p : CTile) (y plane : Nat) : Byte :=
  (List.range 8).foldl (fun byte x => (byte <<< 1) ||| flagByte (planeBit p y plane x)) 0

/-- The plane-pair bases `[0, 2, 4, 6] with b < bpp`, increasing (R109). -/
def pairBases (bpp : Nat) : List Nat := [0, 2, 4, 6].filter (fun b => decide (b < bpp))

/-- The planes of the pair at base `b`; "a trailing odd plane is alone" (R109). -/
def pairPlanes (bpp b : Nat) : List Nat := if b + 1 < bpp then [b, b + 1] else [b]

/-- The (row, plane) pairs of a packed tile in output order (R109, R54). -/
def planeOrder (bpp : Nat) : List (Nat × Nat) :=
  (pairBases bpp).flatMap (fun b =>
    (List.range 8).flatMap (fun y => (pairPlanes bpp b).map (fun plane => (y, plane))))

/-- `pack_tile(p, bpp)` (R109). Bits of an index at `bpp` and above are ignored (R111). -/
def packTile (p : CTile) (bpp : Nat) : Bytes := (planeOrder bpp).map (fun yp => planeByte p yp.1 yp.2)

/-- PACK (R108): the tiles in tile-id order. No error. A given tileset of any length is accepted: that one of
more than 1024 tiles, beyond the bounds of R8 and R57, is an operand is the model's choice (log 29). -/
def execPack (ts : Src (List CTile)) (bpp : Nat) (s : State) : Host.Outcome State Fault Refusal :=
  withOperands "PACK" (tilesetOk (srcValue s.ts ts) && bppOk bpp) <|
    succeed (.bytes ((srcValue s.ts ts).flatMap (fun p => packTile p bpp))) s

/-- PACKLIN (R112): one byte per pixel, tiles in order; more than 256 tiles is a CapacityError. -/
def execPacklin (ts : Src (List CTile)) (s : State) : Host.Outcome State Fault Refusal :=
  withOperands "PACKLIN" (tilesetOk (srcValue s.ts ts)) <|
    if (srcValue s.ts ts).length > Config.maxLinTiles then raise .capacity (.failed .linearTileCount) s
    else succeed (.bytes (srcValue s.ts ts).flatten) s

/-- The index `unpack_tile` builds at column `x` of row `y` (R114): bit `plane` is bit `7 - x` of the byte at
the offset where `planeOrder` puts that row and plane. -/
def unpackIndex (bs : Bytes) (bpp y x : Nat) : Index :=
  ((planeOrder bpp).zip bs).foldl
    (fun acc e => if e.1.1 = y then acc ||| (flagByte (e.2.getLsbD (7 - x)) <<< e.1.2) else acc) 0

/-- `unpack_tile(bs, bpp)` (R114). -/
def unpackTile (bs : Bytes) (bpp : Nat) : CTile :=
  (blockCoords 8 8).map (fun c => unpackIndex bs bpp c.2 c.1)

end Sys2Proof.Machine
end

