-- ==== Sys2Proof/Machine/Tilemaps.lean ====
section
/-! DEFINITION. Tilemap Serializer: TMSER, TMSPLIT, TMSPLITC (spec/45_tilemap.md), and `tm_decode` (R125),
which is no operation of the engine. -/

namespace Sys2Proof.Machine

open Sys2Proof

/-- byte0 of an entry: `tile_id & 0xFF` (R121). -/
def tmByte0 (e : TmEntry) : Byte := (e.tileId &&& 0xFF).setWidth 8

/-- byte1 of an entry (R121): `((tile_id >> 8) & 0x03) | ((palette_id & 0x07) << 2) | (pri << 5) |
(hflip << 6) | (vflip << 7)`. -/
def tmByte1 (e : TmEntry) (pri : Bool) : Byte :=
  (((e.tileId >>> 8) &&& 0x03).setWidth 8) ||| ((e.paletteId.setWidth 8 &&& 0x07) <<< 2)
    ||| flagBits pri e.hflip e.vflip

/-- `tm_word(e, pri)` (R121). -/
def tmWord (e : TmEntry) (pri : Bool) : Byte × Byte := (tmByte0 e, tmByte1 e pri)

/-- `tm_decode(byte0, byte1)` (R125). -/
def tmDecode (b0 b1 : Byte) : TmEntry × Bool :=
  ({ tileId := ((b1 &&& 0x03).setWidth 10 <<< 8) ||| b0.setWidth 10
     paletteId := ((b1 >>> 2) &&& 0x07).setWidth 3
     hflip := b1.getLsbD 6
     vflip := b1.getLsbD 7 }, b1.getLsbD 5)

/-- The combined stream (R122): byte0 and byte1 of each entry in turn. -/
def tmCombined (tm : List TmEntry) (pri : Bool) : Bytes := tm.flatMap (fun e => [(tmWord e pri).1, (tmWord e pri).2])

/-- The low buffer (R123): byte0 of each entry. -/
def tmLow (tm : List TmEntry) (pri : Bool) : Bytes := tm.map (fun e => (tmWord e pri).1)

/-- The high buffer (R123): byte1 of each entry. -/
def tmHigh (tm : List TmEntry) (pri : Bool) : Bytes := tm.map (fun e => (tmWord e pri).2)

/-- TMSER (R122). -/
def execTmser (tm : Src (List TmEntry)) (pri : Bool) (s : State) : Host.Outcome State Fault Refusal :=
  withTilemapLength (srcValue s.tm tm) <| succeed (.bytes (tmCombined (srcValue s.tm tm) pri)) s

/-- TMSPLIT (R123). -/
def execTmsplit (tm : Src (List TmEntry)) (pri : Bool) (s : State) : Host.Outcome State Fault Refusal :=
  withTilemapLength (srcValue s.tm tm) <|
    succeed (.buffers (tmLow (srcValue s.tm tm) pri) (tmHigh (srcValue s.tm tm) pri)) s

/-- TMSPLITC (R124): the low bytes, then the high bytes. -/
def execTmsplitc (tm : Src (List TmEntry)) (pri : Bool) (s : State) : Host.Outcome State Fault Refusal :=
  withTilemapLength (srcValue s.tm tm) <|
    succeed (.bytes (tmLow (srcValue s.tm tm) pri ++ tmHigh (srcValue s.tm tm) pri)) s

end Sys2Proof.Machine
end

