-- ==== Sys2Proof/Machine/Formats.lean ====
section
/-! DEFINITION. The six data-format rows of the opcode table (R50 to R52, R109, R121). A data word is no
operation: "the seventeen operations of 30_encoding.md rule R47 are all the engine does" (R143), and what
names no operation is refused with no state change (R59, R144; log 11). What the formats say is in
Decode.lean (fields and words) and in the operations that write them (`quantize`, `colorBytes`, `tmWord`,
`planeByte`). -/

namespace Sys2Proof.Machine

open Sys2Proof

/-- Refuse a data word issued as an operation (R59). -/
def refuseData (mnemonic : String) (_ : State) : Host.Outcome State Fault Refusal :=
  .refused (.dataFormat mnemonic)

/-- HWCOLOR (R50): a data format. -/
def execHwcolor (_ _ _ : BitVec 5) (s : State) : Host.Outcome State Fault Refusal := refuseData "HWCOLOR" s

/-- COLORWORD (R51): a data format. -/
def execColorword (_ _ _ : BitVec 5) (s : State) : Host.Outcome State Fault Refusal := refuseData "COLORWORD" s

/-- TMWORD (R52): a data format. -/
def execTmword (_ _ _ : Bool) (_ : BitVec 3) (_ : BitVec 10) (s : State) : Host.Outcome State Fault Refusal :=
  refuseData "TMWORD" s

/-- TMBYTE0 (R121): a data format. -/
def execTmbyte0 (_ : BitVec 8) (s : State) : Host.Outcome State Fault Refusal := refuseData "TMBYTE0" s

/-- TMBYTE1 (R121): a data format. -/
def execTmbyte1 (_ _ _ : Bool) (_ : BitVec 3) (_ : BitVec 2) (s : State) : Host.Outcome State Fault Refusal :=
  refuseData "TMBYTE1" s

/-- PLANEBYTE (R109): a data format. -/
def execPlanebyte (_ _ _ _ _ _ _ _ : Bool) (s : State) : Host.Outcome State Fault Refusal :=
  refuseData "PLANEBYTE" s

end Sys2Proof.Machine
end

