-- ==== Sys2Proof/Machine/Dispatch.lean ====
section
/-! DEFINITION. One arm per constructor of Instr, each one direct call of its meaning. -/

namespace Sys2Proof.Machine

open Sys2Proof

def exec (i : Instr) (s : State) : Host.Outcome State Fault Refusal :=
  match i with
  | .quant r g b => Sys2Proof.Machine.execQuant r g b s
  | .xlin8 S => Sys2Proof.Machine.execXlin8 S s
  | .xlin16 S => Sys2Proof.Machine.execXlin16 S s
  | .xscr S => Sys2Proof.Machine.execXscr S s
  | .tprobe S t x0 y0 => Sys2Proof.Machine.execTprobe S t x0 y0 s
  | .xlarge S x0 y0 => Sys2Proof.Machine.execXlarge S x0 y0 s
  | .split16 t => Sys2Proof.Machine.execSplit16 t s
  | .hflip16 t => Sys2Proof.Machine.execHflip16 t s
  | .vflip16 t => Sys2Proof.Machine.execVflip16 t s
  | .palbuild P bpp => Sys2Proof.Machine.execPalbuild P bpp s
  | .palraw L => Sys2Proof.Machine.execPalraw L s
  | .convert tiles table => Sys2Proof.Machine.execConvert tiles table s
  | .pack ts bpp => Sys2Proof.Machine.execPack ts bpp s
  | .packlin ts => Sys2Proof.Machine.execPacklin ts s
  | .tmser tm pri => Sys2Proof.Machine.execTmser tm pri s
  | .tmsplit tm pri => Sys2Proof.Machine.execTmsplit tm pri s
  | .tmsplitc tm pri => Sys2Proof.Machine.execTmsplitc tm pri s
  | .hwcolor b5 g5 r5 => Sys2Proof.Machine.execHwcolor b5 g5 r5 s
  | .colorword b5 g5 r5 => Sys2Proof.Machine.execColorword b5 g5 r5 s
  | .tmword v h p c t => Sys2Proof.Machine.execTmword v h p c t s
  | .tmbyte0 t => Sys2Proof.Machine.execTmbyte0 t s
  | .tmbyte1 v h p c t => Sys2Proof.Machine.execTmbyte1 v h p c t s
  | .planebyte x0 x1 x2 x3 x4 x5 x6 x7 => Sys2Proof.Machine.execPlanebyte x0 x1 x2 x3 x4 x5 x6 x7 s

end Sys2Proof.Machine
end

