-- ==== Sys2Proof/Machine/Step.lean ====
section
/-! DEFINITION. One step: the engine takes the host's next operation, decodes it and runs it to its result
(R11, R43). With nothing issued it waits (R151; log 21). -/

namespace Sys2Proof.Machine

open Sys2Proof

/-- One step of the engine. -/
def step (s : State) : Host.Outcome State Fault Refusal :=
  match takeCommand s with
  | none => .next s
  | some (c, s') =>
    match decode c with
    | .ok i => exec i s'
    | .error e => .refused (.undecodable e)

/-- `s` with the operation of a bare table word issued as the host's next one (log 1, log 2). -/
def State.withFetchWord (s : State) (nbits w : Nat) : State :=
  { s with inbox := commandOfBits nbits w :: s.inbox }

end Sys2Proof.Machine
end

