-- ==== Sys2Proof/Machine/Pipeline.lean ====
section
/-! DEFINITION. The two composite sequences of R60, "each a plain succession of operations with no semantics
of its own": what a host does with the engine, not an operation of it. -/

namespace Sys2Proof.Machine

open Sys2Proof

/-- Go on with the value the operation returned; "the first error ends the sequence" (R60), and so does a
fault or a refusal. -/
def andThen (o : Host.Outcome State Fault Refusal) (k : Value → State → Host.Outcome State Fault Refusal) :
    Host.Outcome State Fault Refusal :=
  match o with
  | .next s =>
    match s.outbox.getLast? with
    | some (.ok v) => k v s
    | _ => .next s
  | .fault r => .fault r
  | .refused r => .refused r

/-- CONVERT the tiles an extraction returned, then PACK and TMSER the stores (R60). -/
def finishPass (bpp : Nat) (pri : Bool) (v : Value) (s : State) : Host.Outcome State Fault Refusal :=
  match v with
  | .tiles8 tiles =>
    andThen (exec (.convert tiles .store) s) fun _ s1 =>
      andThen (exec (.pack .store bpp) s1) fun _ s2 => exec (.tmser .store pri) s2
  | _ => .next s

/-- PIPE_LINEAR(P, S, bpp, pri) (R60). -/
def pipeLinear (P S : Surface) (bpp : Nat) (pri : Bool) (s : State) : Host.Outcome State Fault Refusal :=
  andThen (exec (.palbuild P bpp) s) fun _ s1 => andThen (exec (.xlin8 S) s1) (finishPass bpp pri)

/-- PIPE_SCREEN(P, S, bpp, pri) (R60): the same with XSCR in place of XLIN8. -/
def pipeScreen (P S : Surface) (bpp : Nat) (pri : Bool) (s : State) : Host.Outcome State Fault Refusal :=
  andThen (exec (.palbuild P bpp) s) fun _ s1 => andThen (exec (.xscr S) s1) (finishPass bpp pri)

end Sys2Proof.Machine
end

