-- ==== Sys2Proof/Safety.lean ====
section
/-! DEFINITION. The invariant of the stores between operations, and what counts as a safe outcome, in the
terms the statements use. -/

namespace Sys2Proof.Machine

open Sys2Proof

/-- A palette is injective: two colours with one index are one colour (R84). -/
def Injective (m : Palette) : Prop :=
  ∀ c d i, mapLookup c m = some i → mapLookup d m = some i → c = d

/-- What PALBUILD leaves in PT (R89), whatever `bpp` it was given (R88: `bpp` is not stored): at most 8
palettes, every palette a canonical injective map, at most 256 keys in all. -/
structure TableInv (table : PaletteTable) : Prop where
  few : table.length ≤ 8
  canonical : ∀ m ∈ table, paletteOk m = true
  injective : ∀ m ∈ table, Injective m
  keys : (table.map List.length).sum ≤ 256

/-- TS, LUT and TM as CONVERT keeps them at every tile: at most 1024 tiles of 64 bytes (R21), LUT in
canonical form and holding exactly the mirrors of the tiles of TS with flags that reproduce them (R106,
R107 a), no tile of TS a mirror of another (R107 c), and every entry of TM pointing into TS (R26). -/
structure PassInv (s : State) : Prop where
  few : s.ts.length ≤ 1024
  sizes : ∀ c ∈ s.ts, c.length = 64
  canonical : PMap.rising bytesLt s.lut = true
  sound : ∀ k e, mapLookup k s.lut = some e →
    ∃ c, s.ts[e.tileId.toNat]? = some c ∧ k = flipTile c e.hflip e.vflip
  complete : ∀ c ∈ s.ts, ∀ h v, inDom (flipTile c h v) s.lut = true
  minimal : s.ts.Pairwise (fun a b => ∀ h v, flipTile a h v ≠ b)
  entries : ∀ e ∈ s.tm, e.tileId.toNat < s.ts.length

/-- The invariant of the engine between operations: PT as PALBUILD leaves it, TS, LUT and TM as CONVERT
leaves them, no invalid position pending (R105, R138) and POS the number of tiles of the last CONVERT
(R98). -/
structure Inv (s : State) : Prop where
  table : TableInv s.pt
  pass : PassInv s
  noInvalid : s.inv = []
  position : s.pos = s.tm.length

/-- An outcome that is a next state: the engine goes on (R144: `Ok` and the three error kinds). A fault or a
refusal is not safe. -/
def Safe (o : Host.Outcome State Fault Refusal) : Prop := ∃ t, o = .next t

/-- The seventeen operations of R47, as against the six data formats. -/
def IsOperation (i : Instr) : Prop := (encode i).format = .cmd

/-! ## What the rules say, in terms of positions

The definitions below restate the rules without the model's own algorithms, so that a statement can compare
the two. -/

/-- The quantized colour at (x, y) of a surface, none outside it (R32, R63). -/
def pixelColor (S : Surface) (x y : Nat) : Option HwColor := (surfRead S x y).map quantize

/-- `t` is the `n`×`n` block of quantized colours with top-left pixel (x0, y0), row-major (R64, R65). -/
def IsBlock (S : Surface) (n x0 y0 : Nat) (t : List HwColor) : Prop :=
  t.length = n * n ∧
    ∀ x y, x < n → y < n → ∃ c, pixelColor S (x0 + x) (y0 + y) = some c ∧ t[n * y + x]? = some c

/-- The mirror image of a 64-element tile, position by position (R94, R96, R97): column `7 - x` where `h`, row
`7 - y` where `v`. -/
def mirror (h v : Bool) (c : CTile) : CTile :=
  (List.range 64).map (fun i =>
    c.getD (8 * (if v then 7 - i / 8 else i / 8) + (if h then 7 - i % 8 else i % 8)) 0)

/-- The four orientations in the order R103 registers them. -/
def mirrorOrder : List (Bool × Bool) := [(false, false), (true, false), (false, true), (true, true)]

/-- `b` is in `orbit(a)` (R94). -/
def isMirror (a b : CTile) : Bool := mirrorOrder.any (fun f => mirror f.1 f.2 a == b)

/-- One tile per orbit, in order of first appearance, in the orientation first met (R107 c). -/
def representatives : List CTile → List CTile → List CTile
  | reps, [] => reps
  | reps, c :: cs =>
    if reps.any (fun r => isMirror r c) then representatives reps cs else representatives (reps ++ [c]) cs

/-- The least index of a palette that has every colour of the tile (R93, R99). -/
def firstCover (table : PaletteTable) (t : Tile8) : Option Nat :=
  table.findIdx? (fun m => t.all (fun c => (m.lookup c).isSome))

/-- The indices of a tile under the palette it gets (R100), none where no palette covers it. -/
def tileIndices (table : PaletteTable) (t : Tile8) : Option CTile :=
  (firstCover table t).bind (fun pid => (table[pid]?).map (fun m => t.filterMap (fun c => m.lookup c)))

/-- The entry of a tile, given the tiles of the whole pass: the id of its orbit's representative, its
palette, and the first orientation in the order of R103 that turns the representative into it. -/
def entryOf (table : PaletteTable) (reps : List CTile) (t : Tile8) : Option TmEntry :=
  (firstCover table t).bind (fun pid =>
    (tileIndices table t).bind (fun c =>
      (reps.findIdx? (fun r => isMirror r c)).bind (fun tid =>
        (mirrorOrder.find? (fun f => mirror f.1 f.2 (reps.getD tid []) == c)).map (fun f =>
          ⟨BitVec.ofNat 10 tid, BitVec.ofNat 3 pid, f.1, f.2⟩))))

/-- The 0-based positions of the tiles no palette covers, ascending (R99, R105). -/
def uncovered (table : PaletteTable) (tiles : List Tile8) : List Nat :=
  (List.range tiles.length).filter (fun i => (firstCover table (tiles.getD i [])).isNone)

/-- An entry reproduces a tile: it names a tile of TS and a palette of the table, the first one that covers
the tile, and the tile of TS, flipped as the entry says, is the tile's index sequence (R26, R99). -/
def Reproduces (table : PaletteTable) (ts : List CTile) (e : TmEntry) (t : Tile8) : Prop :=
  ∃ c, ts[e.tileId.toNat]? = some c ∧ firstCover table t = some e.paletteId.toNat ∧
    tileIndices table t = some (mirror e.hflip e.vflip c)

/-- The entry and the priority bit a reader finds at entry `i` of a combined tilemap stream (R122, R125). -/
def readEntry (mapdata : Bytes) (i : Nat) : Option (TmEntry × Bool) :=
  (mapdata[2 * i]?).bind (fun b0 => (mapdata[2 * i + 1]?).map (fun b1 => tmDecode b0 b1))

/-- The tile a reader unpacks for tile id `k` of packed tile data (R42, R114). -/
def readTile (tiledata : Bytes) (bpp k : Nat) : CTile :=
  unpackTile ((tiledata.drop (k * (bpp * 8))).take (bpp * 8)) bpp

/-- The byte offset of row `y` of plane `q` inside a packed tile (R110): the pair of `q` is full, or `q` is
the single trailing plane. -/
def planeOffset (bpp q y : Nat) : Nat :=
  if q - q % 2 + 1 < bpp then 8 * (q - q % 2) + 2 * y + q % 2 else 8 * q + y

end Sys2Proof.Machine
end

