-- ==== Sys2Proof/Certificates/Slice0/Obligations.lean ====
section
/-! DEFINITION. The statements for the provers. `s.deliver r` is `s` with `r` appended to the outbox and
nothing else changed, so an equation `exec i s = .next (s.deliver r)` is also the whole frame: every store,
the inbox and MAX_COLORS are as before. Statements that rest on a choice of the spec's own
(spec/92_eei_decisions.md) or of the model say so in their docstring. -/

open Sys2Proof Sys2Proof.Machine

/-! ## The machine: fetch, decode, encode -/

/-- A step runs the operation the host issued: it takes the first command of the inbox, and where that decodes
to `i`, it is `exec i` on the state with that command taken (the inbox and one operation a step are the
model's, log 1). -/
def Obligations.StepRunsTheDecodedOperation : Prop :=
  ∀ (s : State) (c : Command) (rest : List Command) (i : Instr),
    s.inbox = c :: rest → decode c = .ok i → step s = exec i { s with inbox := rest }

/-- With nothing issued the engine waits (R151: the model's reading of "waits for the host's first operation",
log 21); a command that decodes to nothing is refused by name (R59). The inbox is the model's (log 1); that a
command of unknown code is refused is the spec's own choice D2 (log 3), of operands out of place the model's
reading of R48 (log 5). -/
def Obligations.StepWaitsAndRefuses : Prop :=
  (∀ s : State, s.inbox = [] → step s = .next s) ∧
  ∀ (s : State) (c : Command) (rest : List Command) (e : DecodeError),
    s.inbox = c :: rest → decode c = .error e → step s = .refused (.undecodable e)

/-- The seventeen codes of R47, and every other code refused, whatever operands stand beside it (R59; that
the codes are the spec's own is D2, log 3). -/
def Obligations.UnknownCodesAreRefused : Prop :=
  (∀ o : OpCode, opcodeOf o.code = some o) ∧
  ∀ (op : Byte) (operands : List Operand), (∀ o : OpCode, o.code ≠ op) →
    decode { format := .cmd, word := [op], operands := operands } = .error (.unknownCode op)

/-- Some words written out from the tables of R47, R50 to R52 and the source's worked example (R126). The
operation codes are the spec's own (D2, log 3), the format beside a data word the model's (log 11). -/
def Obligations.WordsOfTheTablesDecode : Prop :=
  decode ⟨.cmd, [0x00], [.chan 123, .chan 45, .chan 67]⟩ = .ok (.quant 123 45 67) ∧
  decode ⟨.cmd, [0x15], [.tile16 []]⟩ = .ok (.split16 []) ∧
  decode ⟨.cmd, [0x30], [.tiles [], .table .store]⟩ = .ok (.convert [] .store) ∧
  decode ⟨.cmd, [0x52], [.tilemap .store, .pri true]⟩ = .ok (.tmsplitc .store true) ∧
  decode ⟨.cmd, [0x53], [.tilemap .store, .pri true]⟩ = .error (.unknownCode 0x53) ∧
  decode ⟨.tmword, [0x2C, 0x75], []⟩ = .ok (.tmword false true true 5 300) ∧
  decode ⟨.hwcolor, [0xAF, 0x20], []⟩ = .ok (.hwcolor 8 5 15)

/-- DECODE AND ENCODE AGREE, for every instruction with every operand (the operation codes are the spec's own,
D2, log 3; the format beside a data word is the model's, log 11). -/
def Obligations.DecodeOfEncodeIsTheInstruction : Prop :=
  ∀ i : Instr, decode (encode i) = .ok i

/-- The other direction: a command that decodes has one spelling, so no bit of a word and no operand is dropped.
The operation codes are the spec's own (D2, log 3). R59 says the source defines no decoder: that a data word
decodes at all, and that it has one spelling, rests on the format tag beside the word, which is the model's (log
11). -/
def Obligations.EncodeOfDecodeIsTheCommand : Prop :=
  ∀ (c : Command) (i : Instr), decode c = .ok i → encode i = c

/-! ## Color Quantizer -/

/-- QUANT's result (R61): blue, green and red fields of five bits, red lowest. -/
def Obligations.QuantPacksTheTopFiveBits : Prop :=
  ∀ (r g b : Byte) (s : State), ∃ c : HwColor,
    exec (.quant r g b) s = .next (s.deliver (.ok (.color c))) ∧
    c.toNat = b.toNat / 8 * 1024 + g.toNat / 8 * 32 + r.toNat / 8

/-- The low three bits of a channel never matter, and two triples quantize to one colour exactly when they
agree in bits [7:3] of every channel (R62). -/
def Obligations.QuantizeForgetsExactlyTheLowBits : Prop :=
  (∀ r g b : Byte, quantize ⟨r, g, b⟩ = quantize ⟨r ||| 7, g ||| 7, b ||| 7⟩) ∧
  (∀ r g b : Byte, quantize ⟨r, g, b⟩ = quantize ⟨r &&& 0xF8, g &&& 0xF8, b &&& 0xF8⟩) ∧
  (∀ p q : RGB, quantize p = quantize q ↔
    p.r.toNat / 8 = q.r.toNat / 8 ∧ p.g.toNat / 8 = q.g.toNat / 8 ∧ p.b.toNat / 8 = q.b.toNat / 8) ∧
  ∀ c : HwColor, ∃ p : RGB, quantize p = c

/-! ## Tile Extractor -/

/-- XLIN8 (R66): the tiles of the surface in raster order, or ValidationError. -/
def Obligations.Xlin8SlicesInRasterOrder : Prop :=
  ∀ (S : Surface) (s : State), S.ok = true →
    (S.W % 8 = 0 → S.H % 8 = 0 → ∃ tiles : List Tile8,
      exec (.xlin8 S) s = .next (s.deliver (.ok (.tiles8 tiles))) ∧
      tiles.length = (S.W / 8) * (S.H / 8) ∧
      ∀ tx ty, tx < S.W / 8 → ty < S.H / 8 →
        ∃ t, tiles[ty * (S.W / 8) + tx]? = some t ∧ IsBlock S 8 (8 * tx) (8 * ty) t) ∧
    (S.W % 8 ≠ 0 ∨ S.H % 8 ≠ 0 → ∃ info,
      exec (.xlin8 S) s = .next (s.deliver (.err .validation info)))

/-- XLIN16 (R67): the same with tiles of side 16. -/
def Obligations.Xlin16SlicesInRasterOrder : Prop :=
  ∀ (S : Surface) (s : State), S.ok = true →
    (S.W % 16 = 0 → S.H % 16 = 0 → ∃ tiles : List Tile16,
      exec (.xlin16 S) s = .next (s.deliver (.ok (.tiles16 tiles))) ∧
      tiles.length = (S.W / 16) * (S.H / 16) ∧
      ∀ tx ty, tx < S.W / 16 → ty < S.H / 16 →
        ∃ t, tiles[ty * (S.W / 16) + tx]? = some t ∧ IsBlock S 16 (16 * tx) (16 * ty) t) ∧
    (S.W % 16 ≠ 0 ∨ S.H % 16 ≠ 0 → ∃ info,
      exec (.xlin16 S) s = .next (s.deliver (.err .validation info)))

/-- XSCR (R68): screens row-major, in each screen the 32×32 tiles row-major, or ValidationError. -/
def Obligations.XscrSlicesInScreenBlockOrder : Prop :=
  ∀ (S : Surface) (s : State), S.ok = true →
    (S.W % 256 = 0 → S.H % 256 = 0 → S.W ≤ 512 → S.H ≤ 512 → ∃ tiles : List Tile8,
      exec (.xscr S) s = .next (s.deliver (.ok (.tiles8 tiles))) ∧
      tiles.length = 1024 * ((S.W / 256) * (S.H / 256)) ∧
      ∀ sx sy tx ty, sx < S.W / 256 → sy < S.H / 256 → tx < 32 → ty < 32 →
        ∃ t, tiles[1024 * (sy * (S.W / 256) + sx) + 32 * ty + tx]? = some t ∧
          IsBlock S 8 (256 * sx + 8 * tx) (256 * sy + 8 * ty) t) ∧
    (S.W % 256 ≠ 0 ∨ S.H % 256 ≠ 0 ∨ 512 < S.W ∨ 512 < S.H → ∃ info,
      exec (.xscr S) s = .next (s.deliver (.err .validation info)))

/-- For a 256-wide surface XSCR and XLIN8 give the same sequence (R68); so they deliver the same result. -/
def Obligations.XscrIsXlin8OnOneScreenColumn : Prop :=
  ∀ (S : Surface) (s : State), S.ok = true → S.W = 256 → S.H % 256 = 0 → S.H ≤ 512 →
    Safe (exec (.xscr S) s) ∧ exec (.xscr S) s = exec (.xlin8 S) s

/-- TPROBE (R69): true exactly when some pixel of the block differs from the sentinel; a block not wholly
inside is a ValidationError; an unaligned position inside is refused (U3, D15 and D16 are the spec's own
choices, log 8 and log 25). -/
def Obligations.TprobeFindsAPixelThatDiffers : Prop :=
  ∀ (S : Surface) (t : HwColor) (x0 y0 : Nat) (s : State), S.ok = true →
    (x0 + 8 ≤ S.W ∧ y0 + 8 ≤ S.H → x0 % 8 = 0 ∧ y0 % 8 = 0 → ∃ b : Bool,
      exec (.tprobe S t x0 y0) s = .next (s.deliver (.ok (.bool b))) ∧
      (b = true ↔ ∃ x y c, x < 8 ∧ y < 8 ∧ pixelColor S (x0 + x) (y0 + y) = some c ∧ c ≠ t)) ∧
    (¬ (x0 + 8 ≤ S.W ∧ y0 + 8 ≤ S.H) → ∃ info,
      exec (.tprobe S t x0 y0) s = .next (s.deliver (.err .validation info))) ∧
    (x0 + 8 ≤ S.W ∧ y0 + 8 ≤ S.H → ¬ (x0 % 8 = 0 ∧ y0 % 8 = 0) →
      exec (.tprobe S t x0 y0) s = .refused (.unalignedPosition "TPROBE"))

/-- XLARGE (R70): the 16×16 block at an aligned position inside; errors and refusal as for TPROBE (log 8 and
log 25). -/
def Obligations.XlargeExtractsTheBlock : Prop :=
  ∀ (S : Surface) (x0 y0 : Nat) (s : State), S.ok = true →
    (x0 + 16 ≤ S.W ∧ y0 + 16 ≤ S.H → x0 % 16 = 0 ∧ y0 % 16 = 0 → ∃ t : Tile16,
      exec (.xlarge S x0 y0) s = .next (s.deliver (.ok (.tile16 t))) ∧ IsBlock S 16 x0 y0 t) ∧
    (¬ (x0 + 16 ≤ S.W ∧ y0 + 16 ≤ S.H) → ∃ info,
      exec (.xlarge S x0 y0) s = .next (s.deliver (.err .validation info))) ∧
    (x0 + 16 ≤ S.W ∧ y0 + 16 ≤ S.H → ¬ (x0 % 16 = 0 ∧ y0 % 16 = 0) →
      exec (.xlarge S x0 y0) s = .refused (.unalignedPosition "XLARGE"))

/-- SPLIT16 (R72): the four quadrants, element by element (that left is columns 0..7 and top rows 0..7 is the
spec's own reading, D31, log 25). -/
def Obligations.Split16GivesTheFourQuadrants : Prop :=
  ∀ (t : Tile16) (s : State), t.length = 256 → ∃ tl tr bl br : Tile8,
    exec (.split16 t) s = .next (s.deliver (.ok (.quads tl tr bl br))) ∧
    tl.length = 64 ∧ tr.length = 64 ∧ bl.length = 64 ∧ br.length = 64 ∧
    ∀ x y, x < 8 → y < 8 →
      tl[8 * y + x]? = t[16 * y + x]? ∧ tr[8 * y + x]? = t[16 * y + (8 + x)]? ∧
      bl[8 * y + x]? = t[16 * (8 + y) + x]? ∧ br[8 * y + x]? = t[16 * (8 + y) + (8 + x)]?

/-- HFLIP16 and VFLIP16 (R74, R75): columns, or rows, reversed (that columns run from
the left and rows from the top is the spec's own reading, D31, log 25). -/
def Obligations.LargeMirrorsReverseColumnsOrRows : Prop :=
  ∀ (t : Tile16) (s : State), t.length = 256 → ∃ th tv : Tile16,
    exec (.hflip16 t) s = .next (s.deliver (.ok (.tile16 th))) ∧
    exec (.vflip16 t) s = .next (s.deliver (.ok (.tile16 tv))) ∧
    th.length = 256 ∧ tv.length = 256 ∧
    ∀ x y, x < 16 → y < 16 →
      th[16 * y + x]? = t[16 * y + (15 - x)]? ∧ tv[16 * y + x]? = t[16 * (15 - y) + x]?

/-- Mirroring twice is nothing, the two mirrors commute (R74, R75), and a mirrored large tile splits into its
quadrants mirrored and swapped (R76; the geometry is D31, log 25). -/
def Obligations.LargeMirrorsAndTheSplit : Prop :=
  ∀ t : Tile16, t.length = 256 →
    hflip16 (hflip16 t) = t ∧ vflip16 (vflip16 t) = t ∧ vflip16 (hflip16 t) = hflip16 (vflip16 t) ∧
    quad (hflip16 t) 0 0 = hflip8 (quad t 1 0) ∧ quad (hflip16 t) 1 0 = hflip8 (quad t 0 0) ∧
    quad (hflip16 t) 0 1 = hflip8 (quad t 1 1) ∧ quad (hflip16 t) 1 1 = hflip8 (quad t 0 1) ∧
    quad (vflip16 t) 0 0 = vflip8 (quad t 0 1) ∧ quad (vflip16 t) 1 0 = vflip8 (quad t 1 1) ∧
    quad (vflip16 t) 0 1 = vflip8 (quad t 0 0) ∧ quad (vflip16 t) 1 1 = vflip8 (quad t 1 0)

/-- The quadrants of an extracted large tile are the small tiles extracted there (R72; the geometry is D31, log
25). -/
def Obligations.QuadrantsOfAnExtractedTile : Prop :=
  ∀ (S : Surface) (x0 y0 qx qy : Nat), S.ok = true → x0 + 16 ≤ S.W → y0 + 16 ≤ S.H → qx < 2 → qy < 2 →
    quad (extractLarge S x0 y0) qx qy = extractSmall S (x0 + 8 * qx) (y0 + 8 * qy)

/-! ## Palette Table Builder -/

/-- PALBUILD's table (R79, R81): one palette per group of `2^bpp` colours in scan order, and the index of a
colour is the offset of its first occurrence in the group (D8 is the spec's own reading of "index", log 12). PT
becomes the table. A short last group and an image of height 0 are D9 and D17, log 24. -/
def Obligations.PalbuildGroupsInScanOrder : Prop :=
  ∀ (P : Surface) (bpp : Nat) (s : State), P.ok = true → 1 ≤ bpp → bpp ≤ 8 → P.W = 16 →
    P.W * P.H ≤ min (2 ^ bpp * 8) 256 → ∃ table : PaletteTable,
      exec (.palbuild P bpp) s = .next ({ s with pt := table }.deliver (.ok (.table table))) ∧
      table.length = (P.W * P.H + 2 ^ bpp - 1) / 2 ^ bpp ∧
      ∀ g m, table[g]? = some m → ∀ (c : HwColor) (i : Index),
        mapLookup c m = some i ↔
          i.toNat < 2 ^ bpp ∧
          pixelColor P ((g * 2 ^ bpp + i.toNat) % 16) ((g * 2 ^ bpp + i.toNat) / 16) = some c ∧
          ∀ j, j < i.toNat →
            pixelColor P ((g * 2 ^ bpp + j) % 16) ((g * 2 ^ bpp + j) / 16) ≠ some c

/-- PALBUILD's errors (R79): a width other than 16 is a ValidationError, whatever the height; at width 16 a
pixel count above the limit is a CapacityError (its kind and the order of the checks are the spec's own choices
D7 and D6, log 14). PT is as it was (R138). That a failed PALBUILD leaves PT, and every other store, as it was
is the spec's own choice D27 (log 16). -/
def Obligations.PalbuildErrorsLeaveTheTable : Prop :=
  ∀ (P : Surface) (bpp : Nat) (s : State), P.ok = true → 1 ≤ bpp → bpp ≤ 8 →
    (P.W ≠ 16 → ∃ info, exec (.palbuild P bpp) s = .next (s.deliver (.err .validation info))) ∧
    (P.W = 16 → min (2 ^ bpp * 8) 256 < P.W * P.H → ∃ info,
      exec (.palbuild P bpp) s = .next (s.deliver (.err .capacity info)))

/-- What a built table satisfies (R82, R84, R89): at most 8 palettes; in each at most `2^bpp` keys, every
index below `2^bpp`, no index twice; at most 256 keys in all. That every palette is a list of pairs in the
rising-key form is the model's choice (log 10). -/
def Obligations.BuiltTablesAreWellFormed : Prop :=
  ∀ (P : Surface) (bpp : Nat), P.ok = true → 1 ≤ bpp → bpp ≤ 8 → P.W = 16 →
    P.W * P.H ≤ min (2 ^ bpp * 8) 256 →
      TableInv (groupPalettes (scanColors P) (2 ^ bpp)) ∧
      ∀ m ∈ groupPalettes (scanColors P) (2 ^ bpp), m.length ≤ 2 ^ bpp ∧
        ∀ c i, mapLookup c m = some i → i.toNat < 2 ^ bpp

/-- PALRAW (R85): two bytes per list element, low byte first, the high byte with bit 7 zero; a list longer than
MAX_COLORS is a CapacityError (R9; MAX_COLORS is a field of the state, so this holds for every value of it, log
6; bit 15 zero is D25, log 25). That a longer list is a CapacityError is the spec's own choice D23 (log 6). -/
def Obligations.PalrawEmitsLittleEndianColors : Prop :=
  ∀ (L : List RGB) (s : State),
    (L.length ≤ s.maxColors → ∃ buf : Bytes,
      exec (.palraw L) s = .next (s.deliver (.ok (.bytes buf))) ∧ buf.length = 2 * L.length ∧
      ∀ i p, L[i]? = some p → ∃ lo hi : Byte,
        buf[2 * i]? = some lo ∧ buf[2 * i + 1]? = some hi ∧
        lo.toNat + 256 * hi.toNat = (quantize p).toNat ∧ hi.toNat < 128) ∧
    (s.maxColors < L.length → ∃ info, exec (.palraw L) s = .next (s.deliver (.err .capacity info)))

/-- PALRAW of the palette image's pixels holds, in the slot of every colour of every palette PALBUILD makes of
that image, that colour (R87; that the index is the offset is the spec's own reading, D8, log 12). Bit 15 of the
pair zero is D25, log 25. -/
def Obligations.PaletteIndexIsTheSlotInPalrawOutput : Prop :=
  ∀ (P : Surface) (bpp g : Nat) (m : Palette) (c : HwColor) (i : Index), P.ok = true → 1 ≤ bpp → bpp ≤ 8 →
    (groupPalettes (scanColors P) (2 ^ bpp))[g]? = some m → mapLookup c m = some i →
      let out := P.rows.flatten.flatMap (fun p => colorBytes (quantize p))
      ∃ lo hi : Byte, out[2 * (g * 2 ^ bpp + i.toNat)]? = some lo ∧
        out[2 * (g * 2 ^ bpp + i.toNat) + 1]? = some hi ∧ lo.toNat + 256 * hi.toNat = c.toNat

/-! ## Tile Deduplicator -/

/-- `hflip8` and `vflip8` (R96, R97), position by position, and they never change a value. -/
def Obligations.SmallMirrorsReverseColumnsOrRows : Prop :=
  ∀ t : CTile, t.length = 64 →
    (hflip8 t).length = 64 ∧ (vflip8 t).length = 64 ∧
    (∀ x y, x < 8 → y < 8 →
      (hflip8 t)[8 * y + x]? = t[8 * y + (7 - x)]? ∧ (vflip8 t)[8 * y + x]? = t[8 * (7 - y) + x]?) ∧
    ∀ f : Index → Index, hflip8 (t.map f) = (hflip8 t).map f ∧ vflip8 (t.map f) = (vflip8 t).map f

/-- The laws of R94: `flip` is an action of the two flags, and the double mirror is the sequence reversed. -/
def Obligations.FlipsComposeByExclusiveOr : Prop :=
  ∀ t : CTile, t.length = 64 →
    hvflip8 t = t.reverse ∧ vflip8 (hflip8 t) = hflip8 (vflip8 t) ∧
    (∀ h v, flipTile t h v = mirror h v t) ∧
    ∀ h1 v1 h2 v2, flipTile (flipTile t h1 v1) h2 v2 = flipTile t (xor h1 h2) (xor v1 v2)

/-- First match (R99): the palette chosen is the first in index order that has every colour of the tile, and
there is none exactly when no palette has; with an empty table there is none. -/
def Obligations.PaletteSelectionIsFirstMatch : Prop :=
  ∀ (table : PaletteTable) (t : Tile8),
    (choosePalette table t).map (·.2) = firstCover table t ∧
    (choosePalette table t = none ↔ ∀ m ∈ table, ∃ c ∈ t, mapLookup c m = none) ∧
    (∀ m pid, choosePalette table t = some (m, pid) ↔
      table[pid]? = some m ∧ (∀ c ∈ t, (mapLookup c m).isSome = true) ∧
        ∀ j, j < pid → ∀ m', table[j]? = some m' → ∃ c ∈ t, mapLookup c m' = none)

/-- CONVERT in full (R98 to R105, R107 b and c), against the mirror classes and without the lookup map: TS is
one tile per class in order of first appearance, TM one entry per tile with its class's id, the first covering
palette and the first orientation of R103 that reproduces it; more than 1024 classes is a CapacityError, even
with tiles no palette covers; otherwise uncovered tiles give one PaletteMatchError with all their positions.
(The own-mirror rule D10, the unflipped entry of a new tile D11, the rank of the two errors D12, the positions
D14 and the stores after an error D27 are the spec's own choices: log 13, 15, 16, 25. `tableOk`, at most 8
palettes in the rising-key form and any number of colours, is log 5, log 10 and log 30.) That an uncovered tile
adds no class and no entry is D13 (log 16). That an operand may be the store or a given value is R28's, log 4.
-/
def Obligations.ConvertKeepsOneTilePerMirrorClass : Prop :=
  ∀ (tiles : List Tile8) (src : Src PaletteTable) (s : State),
    tilesOk tiles = true → tableOk (srcValue s.pt src) = true →
      let table := srcValue s.pt src
      let reps := representatives [] (tiles.filterMap (tileIndices table))
      let bad := uncovered table tiles
      (1024 < reps.length → ∃ info,
        exec (.convert tiles src) s = .next (s.clearPass.deliver (.err .capacity info))) ∧
      (reps.length ≤ 1024 → bad ≠ [] →
        exec (.convert tiles src) s = .next (s.clearPass.deliver (.err .paletteMatch (.positions bad)))) ∧
      (reps.length ≤ 1024 → bad = [] → ∃ t : State,
        exec (.convert tiles src) s = .next t ∧ t.ts = reps ∧ t.tm = tiles.filterMap (entryOf table reps) ∧
        t.tm.length = tiles.length ∧ t.inv = [] ∧ t.pos = tiles.length ∧ t.pt = s.pt ∧ t.inbox = s.inbox ∧
        t.maxColors = s.maxColors ∧ t.outbox = s.outbox ++ [.ok (.converted t.tm t.ts)])

/-- R26 after every pass of CONVERT's loop: the entries emitted so far stand for the covered tiles processed so
far, in order, and each reproduces its tile. (`tiles` is any list, so it is also any prefix.) That an uncovered
tile emits no entry is the spec's own choice D13 (log 16); `tableOk`, at most 8 palettes in the rising-key form
and any number of colours, is log 5, log 10 and log 30. -/
def Obligations.EntriesReproduceTheirTiles : Prop :=
  ∀ (tiles : List Tile8) (table : PaletteTable) (s t : State),
    tilesOk tiles = true → tableOk table = true → convertTiles table tiles s.clearPass = some t →
      List.Forall₂ (Reproduces table t.ts) t.tm (tiles.filter (fun u => (firstCover table u).isSome))

/-- The loop keeps the invariant of TS, LUT and TM (R21, R26, R106, R107 a): what makes CONVERT right. That LUT
and the palettes are lists of pairs in the rising-key form is the model's choice (log 10); a table of more than
256 colours is covered (log 30). That an uncovered tile leaves TS, LUT and TM as they are is D13 (log 16). -/
def Obligations.EveryTileKeepsThePassInvariant : Prop :=
  (∀ s : State, PassInv s.clearPass) ∧
  ∀ (table : PaletteTable) (u : Tile8) (s t : State), u.length = 64 → tableOk table = true →
    PassInv s → convertTile table u s = some t → PassInv t ∧ t.pos = s.pos + 1 ∧
      ∃ more, t.ts = s.ts ++ more ∧ more.length ≤ 1

/-- Deduplication of a tile and its mirror (§8, R107 d): one canonical tile, the second entry flipped exactly
when the tile is not its own mirror (the first entry unflipped is D11, the own-mirror rule D10: the spec's own
choices, log 25 and 13). `paletteOk` is the model's rising-key form of a palette (log 10). -/
def Obligations.ATileAndItsMirrorShareOneTile : Prop :=
  ∀ (t : Tile8) (m : Palette) (s : State), t.length = 64 → paletteOk m = true → Injective m →
    (∀ c ∈ t, (mapLookup c m).isSome = true) → ∃ s' e1 e2,
      exec (.convert [t, hflip8 t] (.given [m])) s = .next s' ∧ s'.ts.length = 1 ∧ s'.tm = [e1, e2] ∧
      e1.tileId = e2.tileId ∧ e1.hflip = false ∧ (e2.hflip = true ↔ hflip8 t ≠ t)

/-- A pass does not depend on what an earlier one left behind (R152): CONVERT clears TS, TM, LUT, INV and POS
itself, so two engines with one PT give the same result and the same stores. A given table of more than 256
colours is covered (log 30). What an error leaves is the spec's own choice D27 (log 16). That an operand may be
the store or a given value is R28's, log 4. -/
def Obligations.ConvertForgetsTheLastPass : Prop :=
  ∀ (tiles : List Tile8) (src : Src PaletteTable) (s1 s2 t1 t2 : State), s1.pt = s2.pt →
    exec (.convert tiles src) s1 = .next t1 → exec (.convert tiles src) s2 = .next t2 →
      t1.ts = t2.ts ∧ t1.tm = t2.tm ∧ t1.lut = t2.lut ∧ t1.inv = t2.inv ∧ t1.pos = t2.pos ∧ t1.pt = t2.pt ∧
      ∃ r, t1.outbox = s1.outbox ++ [r] ∧ t2.outbox = s2.outbox ++ [r]

/-- On an empty table every tile is invalid (R99, R153): CONVERT reports every position, 0-based (D14, log 16).
What the error leaves is D27 (log 16). -/
def Obligations.ConvertOnAnEmptyTableReportsEveryTile : Prop :=
  ∀ (tiles : List Tile8) (s : State), tilesOk tiles = true → tiles ≠ [] → s.pt = [] →
    exec (.convert tiles .store) s
      = .next (s.clearPass.deliver (.err .paletteMatch (.positions (List.range tiles.length))))

/-! ## Bitplane Packer -/

/-- PACK (R108, R109, R54, R38): `bpp * 8` bytes per tile, tiles in order; the byte of row `y` of plane `q`
stands at its offset, and column `x` is its bit `7 - x`. Holds for every index value, also one of `2^bpp` or
more (R111: the higher bits are ignored, D19, log 18), and for a given tileset of any length (that more than
1024 tiles are accepted is the model's choice, log 29). That an operand may be the store or a given value is
R28's, log 4. -/
def Obligations.PackInterleavesBitplanes : Prop :=
  ∀ (src : Src (List CTile)) (bpp : Nat) (s : State), tilesetOk (srcValue s.ts src) = true →
    1 ≤ bpp → bpp ≤ 8 → ∃ buf : Bytes,
      exec (.pack src bpp) s = .next (s.deliver (.ok (.bytes buf))) ∧
      buf.length = (srcValue s.ts src).length * (bpp * 8) ∧
      ∀ k p, (srcValue s.ts src)[k]? = some p → ∀ q y, q < bpp → y < 8 → ∃ b : Byte,
        buf[k * (bpp * 8) + planeOffset bpp q y]? = some b ∧
        ∀ x, x < 8 → ∃ i : Index, p[8 * y + x]? = some i ∧ b.getLsbD (7 - x) = i.getLsbD q

/-- `pack_tile` and `unpack_tile` are inverse to each other for every depth (R115; `unpack_tile` is the
spec's own definition, R114). -/
def Obligations.PackAndUnpackAreInverse : Prop :=
  ∀ bpp, 1 ≤ bpp → bpp ≤ 8 →
    (∀ p : CTile, p.length = 64 → (∀ i ∈ p, i.toNat < 2 ^ bpp) → unpackTile (packTile p bpp) bpp = p) ∧
    ∀ bs : Bytes, bs.length = bpp * 8 →
      packTile (unpackTile bs bpp) bpp = bs ∧ (unpackTile bs bpp).length = 64 ∧
      ∀ i ∈ unpackTile bs bpp, i.toNat < 2 ^ bpp

/-- Bits of an index at `bpp` and above are ignored (R111; computing a value there is D19, log 18). -/
def Obligations.PackIgnoresHighIndexBits : Prop :=
  ∀ (p : CTile) (bpp : Nat), p.length = 64 → 1 ≤ bpp → bpp ≤ 8 →
    packTile p bpp = packTile (p.map (fun i => BitVec.ofNat 8 (i.toNat % 2 ^ bpp))) bpp

/-- PACKLIN (R112): the tiles' bytes as they stand, 64 per tile; more than 256 tiles is a CapacityError (its
kind is C4's resolution, log 26; exactly 256 accepted is D24, log 25). That an operand may be the store or a
given value is R28's, log 4. -/
def Obligations.PacklinConcatenatesTiles : Prop :=
  ∀ (src : Src (List CTile)) (s : State), tilesetOk (srcValue s.ts src) = true →
    ((srcValue s.ts src).length ≤ 256 → ∃ buf : Bytes,
      exec (.packlin src) s = .next (s.deliver (.ok (.bytes buf))) ∧
      buf.length = 64 * (srcValue s.ts src).length ∧
      ∀ k p, (srcValue s.ts src)[k]? = some p → ∀ j, j < 64 → buf[64 * k + j]? = p[j]?) ∧
    (256 < (srcValue s.ts src).length → ∃ info,
      exec (.packlin src) s = .next (s.deliver (.err .capacity info)))

/-! ## Tilemap Serializer -/

/-- The two bytes of an entry (R121), as numbers. -/
def Obligations.TilemapWordPlacesItsFields : Prop :=
  ∀ (e : TmEntry) (pri : Bool),
    (tmWord e pri).1.toNat = e.tileId.toNat % 256 ∧
    (tmWord e pri).2.toNat = e.tileId.toNat / 256 + 4 * e.paletteId.toNat + (if pri then 32 else 0)
      + (if e.hflip then 64 else 0) + (if e.vflip then 128 else 0)

/-- `tm_word` is a bijection between entries with a priority bit and 16-bit words, and the source's worked
example (R126; `tm_decode` is the spec's own definition, R125). -/
def Obligations.TilemapWordRoundTrips : Prop :=
  (∀ (e : TmEntry) (pri : Bool), tmDecode (tmWord e pri).1 (tmWord e pri).2 = (e, pri)) ∧
  (∀ b0 b1 : Byte, tmWord (tmDecode b0 b1).1 (tmDecode b0 b1).2 = (b0, b1)) ∧
  tmWord ⟨300, 5, true, false⟩ true = (0x2C, 0x75)

/-- The operations write the words of the data formats: QUANT's colour is the HWCOLOR word of its fields
(R50), the colour byte pair the COLORWORD (R51; bit 15 zero is D25, log 25), the bytes of an entry the TMWORD
(R52), a plane byte the PLANEBYTE (R38, R109). -/
def Obligations.OperationsWriteTheDataFormats : Prop :=
  (∀ p : RGB, quantize p
    = colorBits ((p.b >>> 3).setWidth 5) ((p.g >>> 3).setWidth 5) ((p.r >>> 3).setWidth 5)) ∧
  (∀ b5 g5 r5 : BitVec 5, (encode (.colorword b5 g5 r5)).word = colorBytes (colorBits b5 g5 r5)) ∧
  (∀ (e : TmEntry) (pri : Bool),
    (encode (.tmword e.vflip e.hflip pri e.paletteId e.tileId)).word = [(tmWord e pri).1, (tmWord e pri).2]) ∧
  ∀ (p : CTile) (y plane : Nat), planeByte p y plane
    = planeBits (planeBit p y plane 0) (planeBit p y plane 1) (planeBit p y plane 2) (planeBit p y plane 3)
        (planeBit p y plane 4) (planeBit p y plane 5) (planeBit p y plane 6) (planeBit p y plane 7)

/-- The three serializers on a tilemap whose length is a multiple of 1024 (R122, R123, R124), and that the three
forms carry the same bytes (R127). Low bytes first in TMSPLITC is D32 (log 25). That an operand may be the store
or a given value is R28's, log 4. -/
def Obligations.SerializersEmitEveryEntryInOrder : Prop :=
  ∀ (src : Src (List TmEntry)) (pri : Bool) (s : State), (srcValue s.tm src).length % 1024 = 0 →
    ∃ both lo hi sc : Bytes,
      exec (.tmser src pri) s = .next (s.deliver (.ok (.bytes both))) ∧
      exec (.tmsplit src pri) s = .next (s.deliver (.ok (.buffers lo hi))) ∧
      exec (.tmsplitc src pri) s = .next (s.deliver (.ok (.bytes sc))) ∧
      both.length = 2 * (srcValue s.tm src).length ∧ lo.length = (srcValue s.tm src).length ∧
      hi.length = (srcValue s.tm src).length ∧ sc.length = 2 * (srcValue s.tm src).length ∧
      ∀ k e, (srcValue s.tm src)[k]? = some e →
        both[2 * k]? = some (tmWord e pri).1 ∧ both[2 * k + 1]? = some (tmWord e pri).2 ∧
        lo[k]? = some (tmWord e pri).1 ∧ hi[k]? = some (tmWord e pri).2 ∧
        sc[k]? = some (tmWord e pri).1 ∧ sc[(srcValue s.tm src).length + k]? = some (tmWord e pri).2

/-- The length assertion of the serializers (R120, R133; the fault's name is D22's): any other length is a
fault, with no output. The outcome class is log 27. That an operand may be the store or a given value is R28's,
log 4. -/
def Obligations.SerializersFaultOnOtherLengths : Prop :=
  ∀ (src : Src (List TmEntry)) (pri : Bool) (s : State), (srcValue s.tm src).length % 1024 ≠ 0 →
    exec (.tmser src pri) s = .fault .contractViolation ∧
    exec (.tmsplit src pri) s = .fault .contractViolation ∧
    exec (.tmsplitc src pri) s = .fault .contractViolation

/-! ## The whole machine -/

/-- What each operation may touch (R28): PT only PALBUILD, the pass stores only CONVERT, and every operation
that ends delivers exactly one result; the inbox and MAX_COLORS are never touched by a meaning. The binding of
stores is the spec's own choice D3 (log 4), the inbox and the outbox are the model's (log 1), MAX_COLORS as a
field is log 6. -/
def Obligations.OperationsTouchOnlyTheirStores : Prop :=
  ∀ (i : Instr) (s t : State), exec i s = .next t →
    (∃ r, t.outbox = s.outbox ++ [r]) ∧ t.inbox = s.inbox ∧ t.maxColors = s.maxColors ∧
    ((∀ P bpp, i ≠ .palbuild P bpp) → t.pt = s.pt) ∧
    ((∀ tiles src, i ≠ .convert tiles src) →
      t.ts = s.ts ∧ t.tm = s.tm ∧ t.lut = s.lut ∧ t.inv = s.inv ∧ t.pos = s.pos)

/-- The state after an error (R137, R138; that it is so for every kind is D26 and D27, log 16): the stores as
they were, but CONVERT's own at their reset values. -/
def Obligations.ErrorsLeaveTheStores : Prop :=
  ∀ (i : Instr) (s t : State) (k : ErrKind) (info : ErrInfo), exec i s = .next t →
    t.outbox = s.outbox ++ [.err k info] →
      ((∀ tiles src, i ≠ .convert tiles src) → t = s.deliver (.err k info)) ∧
      ((∃ tiles src, i = .convert tiles src) → t = s.clearPass.deliver (.err k info))

/-- Which operation can raise which error (R132, R134): the table of R132, and FormatError by nothing. The kinds
of PALBUILD's and PACKLIN's errors are D7 and C4's resolution (log 14, 26). PALRAW's is D23 (log 6); that an
error is a next state is R144's (log 27). -/
def Obligations.ErrorsByOperation : Prop :=
  ∀ (i : Instr) (s t : State) (k : ErrKind) (info : ErrInfo), exec i s = .next t →
    t.outbox = s.outbox ++ [.err k info] →
      (∃ S, k = .validation ∧ (i = .xlin8 S ∨ i = .xlin16 S ∨ i = .xscr S)) ∨
      (∃ S c x y, k = .validation ∧ (i = .tprobe S c x y ∨ i = .xlarge S x y)) ∨
      (∃ P bpp, i = .palbuild P bpp ∧ (k = .validation ∨ k = .capacity)) ∨
      (∃ L, i = .palraw L ∧ k = .capacity) ∨
      (∃ tiles src, i = .convert tiles src ∧ (k = .capacity ∨ k = .paletteMatch)) ∨
      (∃ src, i = .packlin src ∧ k = .capacity)

/-- An operand outside its range is refused before anything else (R49; D20 and log 5). Tiles of another length
are D18 (log 19), a palette not in the rising-key form is log 10. -/
def Obligations.OperandsOutOfRangeAreRefused : Prop :=
  ∀ (i : Instr) (s : State), i.wellFormed = false → ∃ mn, exec i s = .refused (.operandRange mn)

/-- Where an operation in range stops: nowhere but at a serializer's length assertion (R133) and at an unaligned
block position (R69, R70). From a state with the invariant, every other operation in range goes on to a next
state. (The refusal of an unaligned position is the spec's own choice D16, log 8; what counts as in range is log
5, and a tileset of more than 1024 tiles in range for PACK is log 29, a table of more than 256 colours in range
for CONVERT log 30.) The length assertion as a fault is D22, an error as a next state R144 (log 27). -/
def Obligations.OperationsInRangeComplete : Prop :=
  ∀ (i : Instr) (s : State), Inv s → IsOperation i → i.wellFormed = true →
    Safe (exec i s) ∨
    (exec i s = .fault .contractViolation ∧
      ∃ src pri, (i = .tmser src pri ∨ i = .tmsplit src pri ∨ i = .tmsplitc src pri) ∧
        (srcValue s.tm src).length % 1024 ≠ 0) ∨
    (∃ mn, exec i s = .refused (.unalignedPosition mn)) ∧
      ∃ S c x y, (i = .tprobe S c x y ∧ ¬ (x % 8 = 0 ∧ y % 8 = 0)) ∨
        (i = .xlarge S x y ∧ ¬ (x % 16 = 0 ∧ y % 16 = 0))

/-- A data word is no operation (R47, R59, R143): each of the six data rows is refused, with its own
mnemonic (the reading is the model's, log 11). -/
def Obligations.DataFormatsAreNoOperations : Prop :=
  (∀ b5 g5 r5 s, exec (.hwcolor b5 g5 r5) s = .refused (.dataFormat "HWCOLOR")) ∧
  (∀ b5 g5 r5 s, exec (.colorword b5 g5 r5) s = .refused (.dataFormat "COLORWORD")) ∧
  (∀ v h p c t s, exec (.tmword v h p c t) s = .refused (.dataFormat "TMWORD")) ∧
  (∀ t s, exec (.tmbyte0 t) s = .refused (.dataFormat "TMBYTE0")) ∧
  (∀ v h p c t s, exec (.tmbyte1 v h p c t) s = .refused (.dataFormat "TMBYTE1")) ∧
  ∀ a b c d e f g h s, exec (.planebyte a b c d e f g h) s = .refused (.dataFormat "PLANEBYTE")

/-- Reset leaves every store empty and POS 0 (R29, R151; the spec's own inference D5, log 7), nothing
issued and nothing delivered (the model's own fields, log 1). -/
def Obligations.ResetIsEmpty : Prop :=
  State.reset.pt = [] ∧ State.reset.ts = [] ∧ State.reset.tm = [] ∧ State.reset.lut = [] ∧
  State.reset.inv = [] ∧ State.reset.pos = 0 ∧ State.reset.inbox = [] ∧ State.reset.outbox = []

/-- The invariant holds at reset (R29, the spec's own inference D5, log 7; the rising-key form of the maps in
`Inv` is the model's choice, log 10). -/
def Obligations.ResetHasTheInvariant : Prop := Inv State.reset

/-- AN INVARIANT EVERY STEP KEEPS: PT has the properties of a table PALBUILD made, TS, LUT and TM are what
CONVERT keeps (at most 1024 tiles, LUT canonical and exactly the mirrors of TS, every entry pointing into TS),
no invalid position is pending, POS counts the entries (R19, R21, R26, R89, R106, R107, R138). What an error
leaves is the spec's own choice D27 (log 16), the canonical form of a map the model's (log 10). A step with
nothing issued changes nothing (log 21). -/
def Obligations.EveryStepKeepsTheInvariant : Prop :=
  ∀ s t : State, Inv s → step s = .next t → Inv t

/-- PIPE_SCREEN, read back from its bytes (R60, R26, R42, R87, R115, R126): where the five operations end in
`Ok`, every pixel of the surface is drawn by the bytes alone. The tilemap word of its tile decodes to an entry
with the priority bit asked for; the tile of that id, unpacked and mirrored as the entry says, gives an index
below `2^bpp`; and the palette image's colour in that slot of that palette is the pixel's quantized colour.
(That an index is a slot is the spec's own reading D8, log 12.) The sequence is the host's (R60, log 23). -/
def Obligations.TheBytesDrawTheImage : Prop :=
  ∀ (P S : Surface) (bpp : Nat) (pri : Bool) (s t : State) (a b c : Value) (tiledata mapdata : Bytes),
    pipeScreen P S bpp pri s = .next t →
    t.outbox = s.outbox ++ [.ok a, .ok b, .ok c, .ok (.bytes tiledata), .ok (.bytes mapdata)] →
    ∀ sx sy tx ty x y, sx < S.W / 256 → sy < S.H / 256 → tx < 32 → ty < 32 → x < 8 → y < 8 →
      ∃ (e : TmEntry) (i : Index) (color : HwColor),
        readEntry mapdata (1024 * (sy * (S.W / 256) + sx) + 32 * ty + tx) = some (e, pri) ∧
        (mirror e.hflip e.vflip (readTile tiledata bpp e.tileId.toNat))[8 * y + x]? = some i ∧
        i.toNat < 2 ^ bpp ∧
        pixelColor S (256 * sx + 8 * tx + x) (256 * sy + 8 * ty + y) = some color ∧
        pixelColor P ((e.paletteId.toNat * 2 ^ bpp + i.toNat) % 16)
          ((e.paletteId.toNat * 2 ^ bpp + i.toNat) / 16) = some color
end

