-- ==== Sys2Proof/Laws/Maps.lean ====
section
/-! SUPPORT. Laws of the finite maps: read after write, first writer wins, and the canonical form kept by
every map operation. -/

namespace Sys2Proof.Machine

open Sys2Proof

theorem rising_cons {κ ν : Type} (lt : κ → κ → Bool) (a : κ) (v : ν) (m : PMap κ ν) :
    PMap.rising lt ((a, v) :: m) = true ↔ (∀ p, m.head? = some p → lt a p.1 = true) ∧ PMap.rising lt m = true := by
  cases m with
  | nil => simp [PMap.rising]
  | cons p m => obtain ⟨b, w⟩ := p; simp [PMap.rising]

variable {κ ν : Type} [DecidableEq κ]

@[simp] theorem mapLookup_nil (k : κ) : mapLookup k ([] : PMap κ ν) = none := rfl

@[simp] theorem mapLookup_cons (k k' : κ) (v : ν) (m : PMap κ ν) :
    mapLookup k ((k', v) :: m) = if k = k' then some v else mapLookup k m := rfl

@[simp] theorem inDom_nil (k : κ) : inDom k ([] : PMap κ ν) = false := rfl

theorem inDom_iff (k : κ) (m : PMap κ ν) : inDom k m = true ↔ ∃ v, mapLookup k m = some v := by
  simp [inDom, Option.isSome_iff_exists]

theorem inDom_false_iff (k : κ) (m : PMap κ ν) : inDom k m = false ↔ mapLookup k m = none := by
  simp [inDom]

/-- Read after write: the key written reads as the value written, every other key as before. -/
theorem mapLookup_mapInsert (lt : κ → κ → Bool) (j k : κ) (v : ν) (m : PMap κ ν) :
    mapLookup j (mapInsert lt k v m) = if j = k then some v else mapLookup j m := by
  induction m with
  | nil => rfl
  | cons p m ih =>
    obtain ⟨k', v'⟩ := p
    unfold mapInsert
    by_cases hlt : lt k k' = true
    · simp [hlt]
    · by_cases hk : k = k'
      · subst hk
        simp only [hlt, if_true, mapLookup_cons]
        by_cases hj : j = k <;> simp [hj]
      · simp only [hlt, hk, if_false, mapLookup_cons, ih, Bool.false_eq_true]
        by_cases hj : j = k' <;> by_cases hjk : j = k <;> simp_all

/-- The first writer wins: a key present keeps its value, a new key gets the value written, every other key
reads as before. -/
theorem mapLookup_insertNew (lt : κ → κ → Bool) (j k : κ) (v : ν) (m : PMap κ ν) :
    mapLookup j (insertNew lt k v m)
      = if j = k then some ((mapLookup k m).getD v) else mapLookup j m := by
  unfold insertNew
  by_cases h : inDom k m = true
  · obtain ⟨w, hw⟩ := (inDom_iff k m).mp h
    by_cases hj : j = k <;> simp [h, hj, hw]
  · have hn : mapLookup k m = none := (inDom_false_iff k m).mp (by simpa using h)
    simp [h, mapLookup_mapInsert, hn]

theorem inDom_insertNew (lt : κ → κ → Bool) (j k : κ) (v : ν) (m : PMap κ ν) :
    inDom j (insertNew lt k v m) = (decide (j = k) || inDom j m) := by
  unfold inDom
  rw [mapLookup_insertNew]
  by_cases hj : j = k <;> simp [hj]

/-- The key order compares any two different keys. -/
def Connected (lt : κ → κ → Bool) : Prop := ∀ a b, lt a b = false → a ≠ b → lt b a = true

/-- A key below every key of a map stays below its first key after a write of a higher key. -/
theorem below_mapInsert (lt : κ → κ → Bool) (a k : κ) (v : ν) (m : PMap κ ν)
    (hk : lt a k = true) (hm : ∀ p, m.head? = some p → lt a p.1 = true) :
    ∀ p, (mapInsert lt k v m).head? = some p → lt a p.1 = true := by
  cases m with
  | nil => simpa [mapInsert] using hk
  | cons p m =>
    obtain ⟨k', v'⟩ := p
    have hk' : lt a k' = true := hm (k', v') rfl
    unfold mapInsert
    split
    · simpa using hk
    · split
      · simpa using hk
      · simpa using hk'

/-- A write keeps the canonical form. -/
theorem rising_mapInsert (lt : κ → κ → Bool) (hc : Connected lt) (k : κ) (v : ν) (m : PMap κ ν)
    (hm : PMap.rising lt m = true) : PMap.rising lt (mapInsert lt k v m) = true := by
  induction m with
  | nil => rfl
  | cons p m ih =>
    obtain ⟨k', v'⟩ := p
    obtain ⟨hb, hr⟩ := (rising_cons lt k' v' m).mp hm
    unfold mapInsert
    by_cases hlt : lt k k' = true
    · rw [if_pos hlt, rising_cons]
      exact ⟨by rintro q hq; cases hq; exact hlt, hm⟩
    · by_cases hk : k = k'
      · subst hk
        rw [if_neg hlt, if_pos rfl, rising_cons]
        exact ⟨hb, hr⟩
      · rw [if_neg hlt, if_neg hk, rising_cons]
        exact ⟨below_mapInsert lt k' k v m (hc k k' (by simpa using hlt) hk) hb, ih hr⟩

/-- First-writer-wins registration keeps the canonical form. -/
theorem rising_insertNew (lt : κ → κ → Bool) (hc : Connected lt) (k : κ) (v : ν) (m : PMap κ ν)
    (hm : PMap.rising lt m = true) : PMap.rising lt (insertNew lt k v m) = true := by
  unfold insertNew
  split
  · exact hm
  · exact rising_mapInsert lt hc k v m hm

/-- Colours are compared by value. -/
theorem colorLt_connected : Connected colorLt := by
  intro a b h hne
  have : a.toNat ≠ b.toNat := fun e => hne (BitVec.eq_of_toNat_eq e)
  simp only [colorLt, decide_eq_false_iff_not, decide_eq_true_eq] at *
  omega

/-- Byte sequences are compared lexicographically. -/
theorem bytesLt_connected : Connected bytesLt := by
  intro a
  induction a with
  | nil => intro b h hne; cases b with
    | nil => exact absurd rfl hne
    | cons b bs => simp [bytesLt] at h
  | cons a as ih =>
    intro b h hne
    cases b with
    | nil => rfl
    | cons b bs =>
      simp only [bytesLt, Bool.or_eq_false_iff, decide_eq_false_iff_not, Bool.or_eq_true,
        decide_eq_true_eq, Bool.and_eq_false_iff, Bool.and_eq_true, beq_iff_eq, beq_eq_false_iff_ne] at *
      by_cases hab : a = b
      · subst hab
        refine .inr ⟨rfl, ih bs ?_ (fun e => hne (by rw [e]))⟩
        rcases h.2 with h' | h'
        · exact absurd rfl h'
        · exact h'
      · have : a.toNat ≠ b.toNat := fun e => hab (BitVec.eq_of_toNat_eq e)
        exact .inl (by omega)

end Sys2Proof.Machine
end

