-- ==== Sys2Proof/Laws/State.lean ====
section
/-! SUPPORT. One lemma per field per named update of State, each true by rfl, and the fields after reset. -/

namespace Sys2Proof.Machine

open Sys2Proof

@[simp] theorem deliver_pt (r : OpResult) (s : State) : (s.deliver r).pt = s.pt := rfl
@[simp] theorem deliver_ts (r : OpResult) (s : State) : (s.deliver r).ts = s.ts := rfl
@[simp] theorem deliver_tm (r : OpResult) (s : State) : (s.deliver r).tm = s.tm := rfl
@[simp] theorem deliver_lut (r : OpResult) (s : State) : (s.deliver r).lut = s.lut := rfl
@[simp] theorem deliver_inv (r : OpResult) (s : State) : (s.deliver r).inv = s.inv := rfl
@[simp] theorem deliver_pos (r : OpResult) (s : State) : (s.deliver r).pos = s.pos := rfl
@[simp] theorem deliver_inbox (r : OpResult) (s : State) : (s.deliver r).inbox = s.inbox := rfl
@[simp] theorem deliver_outbox (r : OpResult) (s : State) : (s.deliver r).outbox = s.outbox ++ [r] := rfl
@[simp] theorem deliver_maxColors (r : OpResult) (s : State) : (s.deliver r).maxColors = s.maxColors := rfl

@[simp] theorem clearPass_pt (s : State) : (s.clearPass).pt = s.pt := rfl
@[simp] theorem clearPass_ts (s : State) : (s.clearPass).ts = [] := rfl
@[simp] theorem clearPass_tm (s : State) : (s.clearPass).tm = [] := rfl
@[simp] theorem clearPass_lut (s : State) : (s.clearPass).lut = [] := rfl
@[simp] theorem clearPass_inv (s : State) : (s.clearPass).inv = [] := rfl
@[simp] theorem clearPass_pos (s : State) : (s.clearPass).pos = 0 := rfl
@[simp] theorem clearPass_inbox (s : State) : (s.clearPass).inbox = s.inbox := rfl
@[simp] theorem clearPass_outbox (s : State) : (s.clearPass).outbox = s.outbox := rfl
@[simp] theorem clearPass_maxColors (s : State) : (s.clearPass).maxColors = s.maxColors := rfl

@[simp] theorem emitEntry_pt (e : LutEntry) (pid : Nat) (s : State) : (emitEntry e pid s).pt = s.pt := rfl
@[simp] theorem emitEntry_ts (e : LutEntry) (pid : Nat) (s : State) : (emitEntry e pid s).ts = s.ts := rfl
@[simp] theorem emitEntry_tm (e : LutEntry) (pid : Nat) (s : State) : (emitEntry e pid s).tm = s.tm ++ [⟨e.tileId, BitVec.ofNat 3 pid, e.hflip, e.vflip⟩] := rfl
@[simp] theorem emitEntry_lut (e : LutEntry) (pid : Nat) (s : State) : (emitEntry e pid s).lut = s.lut := rfl
@[simp] theorem emitEntry_inv (e : LutEntry) (pid : Nat) (s : State) : (emitEntry e pid s).inv = s.inv := rfl
@[simp] theorem emitEntry_pos (e : LutEntry) (pid : Nat) (s : State) : (emitEntry e pid s).pos = s.pos := rfl
@[simp] theorem emitEntry_inbox (e : LutEntry) (pid : Nat) (s : State) : (emitEntry e pid s).inbox = s.inbox := rfl
@[simp] theorem emitEntry_outbox (e : LutEntry) (pid : Nat) (s : State) : (emitEntry e pid s).outbox = s.outbox := rfl
@[simp] theorem emitEntry_maxColors (e : LutEntry) (pid : Nat) (s : State) : (emitEntry e pid s).maxColors = s.maxColors := rfl

@[simp] theorem withFetchWord_pt (nbits w : Nat) (s : State) : (s.withFetchWord nbits w).pt = s.pt := rfl
@[simp] theorem withFetchWord_ts (nbits w : Nat) (s : State) : (s.withFetchWord nbits w).ts = s.ts := rfl
@[simp] theorem withFetchWord_tm (nbits w : Nat) (s : State) : (s.withFetchWord nbits w).tm = s.tm := rfl
@[simp] theorem withFetchWord_lut (nbits w : Nat) (s : State) : (s.withFetchWord nbits w).lut = s.lut := rfl
@[simp] theorem withFetchWord_inv (nbits w : Nat) (s : State) : (s.withFetchWord nbits w).inv = s.inv := rfl
@[simp] theorem withFetchWord_pos (nbits w : Nat) (s : State) : (s.withFetchWord nbits w).pos = s.pos := rfl
@[simp] theorem withFetchWord_inbox (nbits w : Nat) (s : State) : (s.withFetchWord nbits w).inbox = commandOfBits nbits w :: s.inbox := rfl
@[simp] theorem withFetchWord_outbox (nbits w : Nat) (s : State) : (s.withFetchWord nbits w).outbox = s.outbox := rfl
@[simp] theorem withFetchWord_maxColors (nbits w : Nat) (s : State) : (s.withFetchWord nbits w).maxColors = s.maxColors := rfl

@[simp] theorem reset_pt : State.reset.pt = [] := rfl
@[simp] theorem reset_ts : State.reset.ts = [] := rfl
@[simp] theorem reset_tm : State.reset.tm = [] := rfl
@[simp] theorem reset_lut : State.reset.lut = [] := rfl
@[simp] theorem reset_inv : State.reset.inv = [] := rfl
@[simp] theorem reset_pos : State.reset.pos = 0 := rfl
@[simp] theorem reset_inbox : State.reset.inbox = [] := rfl
@[simp] theorem reset_outbox : State.reset.outbox = [] := rfl
@[simp] theorem reset_maxColors : State.reset.maxColors = 256 := rfl

/-- Clearing the pass twice is clearing it once. -/
@[simp] theorem clearPass_clearPass (s : State) : s.clearPass.clearPass = s.clearPass := rfl

/-- What a result is delivered to and what the pass was cleared from commute. -/
theorem deliver_clearPass (r : OpResult) (s : State) : (s.deliver r).clearPass = s.clearPass.deliver r := rfl

end Sys2Proof.Machine
end

