-- ==== Sys2Proof/Laws/Ops.lean ====
section
/-! SUPPORT. For each shared operation one lemma that says once everything it can do. -/

namespace Sys2Proof.Machine

open Sys2Proof

/-! ## Completion and guards -/

@[simp] theorem succeed_next (v : Value) (s t : State) :
    succeed v s = .next t ↔ t = s.deliver (.ok v) := by simp [succeed, eq_comm]

@[simp] theorem raise_next (k : ErrKind) (i : ErrInfo) (s t : State) :
    raise k i s = .next t ↔ t = s.deliver (.err k i) := by simp [raise, eq_comm]

/-- Operands in range: the operation runs; otherwise it is refused by name. -/
theorem withOperands_next (mn : String) (b : Bool) (run : Host.Outcome State Fault Refusal) (t : State) :
    withOperands mn b run = .next t ↔ b = true ∧ run = .next t := by
  cases b <;> simp [withOperands]

@[simp] theorem withOperands_true (mn : String) (run : Host.Outcome State Fault Refusal) :
    withOperands mn true run = run := rfl

@[simp] theorem withOperands_false (mn : String) (run : Host.Outcome State Fault Refusal) :
    withOperands mn false run = .refused (.operandRange mn) := rfl

/-- A block operation that answers a next state either ran at an aligned position inside the surface, or
delivered the ValidationError of a block not wholly inside it. -/
theorem withBlock_next (mn : String) (S : Surface) (x0 y0 n : Nat) (s t : State)
    (run : Host.Outcome State Fault Refusal) (h : withBlock mn S x0 y0 n s run = .next t) :
    (inBounds S x0 y0 n = true ∧ x0 % n = 0 ∧ y0 % n = 0 ∧ run = .next t) ∨
    (inBounds S x0 y0 n = false ∧ t = s.deliver (.err .validation (.failed .position))) := by
  unfold withBlock at h
  by_cases hb : inBounds S x0 y0 n = true
  · rw [if_pos hb] at h
    by_cases ha : x0 % n = 0 ∧ y0 % n = 0
    · rw [if_pos ha] at h
      exact .inl ⟨hb, ha.1, ha.2, h⟩
    · rw [if_neg ha] at h
      cases h
  · rw [if_neg hb] at h
    exact .inr ⟨by simpa using hb, (raise_next _ _ _ _).mp h⟩

theorem inBounds_iff (S : Surface) (x0 y0 n : Nat) :
    inBounds S x0 y0 n = true ↔ x0 + n ≤ S.W ∧ y0 + n ≤ S.H := by simp [inBounds]

/-- The serializers run exactly on lengths that are a multiple of 1024. -/
theorem withTilemapLength_next (tm : List TmEntry) (run : Host.Outcome State Fault Refusal) (t : State) :
    withTilemapLength tm run = .next t ↔ tm.length % 1024 = 0 ∧ run = .next t := by
  unfold withTilemapLength
  by_cases h : tm.length % 1024 = 0 <;> simp [h]

/-- The host's next command is the first of the inbox; nothing else of the state changes. -/
theorem takeCommand_some (s s' : State) (c : Command) :
    takeCommand s = some (c, s') ↔ ∃ rest, s.inbox = c :: rest ∧ s' = { s with inbox := rest } := by
  unfold takeCommand
  cases h : s.inbox with
  | nil => simp
  | cons d rest => simp [eq_comm]

theorem takeCommand_none (s : State) : takeCommand s = none ↔ s.inbox = [] := by
  unfold takeCommand
  cases h : s.inbox <;> simp

@[simp] theorem srcValue_store {α : Type} (v : α) : srcValue v .store = v := rfl

@[simp] theorem srcValue_given {α : Type} (v w : α) : srcValue v (.given w) = w := rfl

/-! ## Row-major blocks -/

@[simp] theorem blockCoords_length (w h : Nat) : (blockCoords w h).length = w * h := by
  simp [blockCoords, Nat.mul_comm]

theorem mem_blockCoords (w h : Nat) (c : Nat × Nat) : c ∈ blockCoords w h ↔ c.1 < w ∧ c.2 < h := by
  obtain ⟨x, y⟩ := c
  simp only [blockCoords, List.mem_flatMap, List.mem_map, List.mem_range, Prod.mk.injEq]
  constructor
  · rintro ⟨y', hy, x', hx, rfl, rfl⟩
    exact ⟨hx, hy⟩
  · rintro ⟨hx, hy⟩
    exact ⟨y, hy, x, hx, rfl, rfl⟩

/-- A list of `h` rows of `w` elements each: element `w*y + x` is element `x` of row `y`. -/
theorem getElem?_flatMap_rows {β : Type} (f : Nat → List β) (w : Nat) (hf : ∀ y, (f y).length = w)
    (h x y : Nat) (hx : x < w) (hy : y < h) : ((List.range h).flatMap f)[w * y + x]? = (f y)[x]? := by
  induction h with
  | zero => omega
  | succ h ih =>
    have hlen : ((List.range h).flatMap f).length = w * h := by
      simp [List.length_flatMap, hf, Nat.mul_comm]
    rw [List.range_succ, List.flatMap_append]
    by_cases hyh : y < h
    · rw [List.getElem?_append_left, ih hyh]
      rw [hlen]
      calc w * y + x < w * y + w := by omega
        _ = w * (y + 1) := by ring
        _ ≤ w * h := Nat.mul_le_mul_left w hyh
    · have : y = h := by omega
      subst this
      rw [List.getElem?_append_right (by rw [hlen]; omega), hlen]
      simp

/-- Row-major order: element `w*y + x` of a block's positions is (x, y) (R18, R66, R68). -/
theorem blockCoords_getElem? (w h x y : Nat) (hx : x < w) (hy : y < h) :
    (blockCoords w h)[w * y + x]? = some (x, y) := by
  unfold blockCoords
  rw [getElem?_flatMap_rows _ w (by simp) h x y hx hy]
  simp [hx]

/-- Where every element has a value, a partial read of all of them is the list of the values. -/
theorem filterMap_eq_map_of_some {α β : Type} (f : α → Option β) (g : α → β) (l : List α)
    (h : ∀ a ∈ l, f a = some (g a)) : l.filterMap f = l.map g := by
  induction l with
  | nil => rfl
  | cons a l ih =>
    rw [List.filterMap_cons, h a (by simp), List.map_cons, ih (fun b hb => h b (by simp [hb]))]

/-- Indices in range: `pick` reads them in order. -/
theorem pick_eq_map {α : Type} (t : List α) (d : α) (indices : List Nat) (h : ∀ i ∈ indices, i < t.length) :
    pick t indices = indices.map (fun i => t.getD i d) := by
  unfold pick
  refine filterMap_eq_map_of_some _ _ _ (fun i hi => ?_)
  have := h i hi
  simp [List.getElem?_eq_getElem this]

theorem pick_length {α : Type} (t : List α) (indices : List Nat) (h : ∀ i ∈ indices, i < t.length) :
    (pick t indices).length = indices.length := by
  induction indices with
  | nil => rfl
  | cons i is ih =>
    have hi := h i (by simp)
    have := ih (fun j hj => h j (by simp [hj]))
    simp [pick, List.getElem?_eq_getElem hi] at this ⊢
    exact this

theorem pick_getElem? {α : Type} (t : List α) (indices : List Nat) (h : ∀ i ∈ indices, i < t.length) (k : Nat) :
    (pick t indices)[k]? = (indices[k]?).bind (fun i => t[i]?) := by
  induction indices generalizing k with
  | nil => simp [pick]
  | cons i is ih =>
    have hi := h i (by simp)
    have ih' := ih (fun j hj => h j (by simp [hj]))
    have hc : pick t (i :: is) = t[i] :: pick t is := by
      simp [pick, List.getElem?_eq_getElem hi]
    rw [hc]
    cases k with
    | zero => simp
    | succ k => simpa using ih' k

/-- Picking is natural: it commutes with any change of the elements' values (R97). -/
theorem pick_map {α β : Type} (f : α → β) (t : List α) (indices : List Nat) :
    pick (t.map f) indices = (pick t indices).map f := by
  simp [pick, List.map_filterMap]

/-! ## Surfaces -/

/-- A surface in range answers every position inside it (R31, R32), -/
theorem surfRead_isSome (S : Surface) (hS : S.ok = true) (x y : Nat) (hx : x < S.W) (hy : y < S.H) :
    ∃ p, surfRead S x y = some p := by
  simp only [Surface.ok, Bool.and_eq_true, beq_iff_eq, List.all_eq_true] at hS
  have hyr : y < S.rows.length := by omega
  have hrow : (S.rows[y]).length = S.W := hS.2 _ (List.getElem_mem hyr)
  refine ⟨(S.rows[y])[x]'(by omega), ?_⟩
  simp [surfRead, hx, hy, List.getElem?_eq_getElem hyr]

/-- and no position outside it (R32). -/
theorem surfRead_none (S : Surface) (x y : Nat) (h : ¬ (x < S.W ∧ y < S.H)) : surfRead S x y = none := by
  simp [surfRead, h]

end Sys2Proof.Machine
end

