-- ==== Sys2Proof/Laws/Dedup.lean ====
section
/-! SUPPORT. What the steps of CONVERT's loop can do, said once each. -/

namespace Sys2Proof.Machine

open Sys2Proof

/-- First match (R99): the palette chosen covers the tile, stands at the index given, and no earlier one
covers the tile. -/
theorem choosePalette_some (table : PaletteTable) (t : Tile8) (m : Palette) (pid : Nat)
    (h : choosePalette table t = some (m, pid)) :
    table[pid]? = some m ∧ covers m t = true ∧ ∀ j m', j < pid → table[j]? = some m' → covers m' t = false := by
  unfold choosePalette at h
  rw [List.find?_eq_some_iff_getElem] at h
  obtain ⟨hc, i, hi, he, hlt⟩ := h
  simp only [List.getElem_zipIdx, Prod.mk.injEq, Nat.zero_add] at he
  obtain ⟨rfl, rfl⟩ := he
  have hi' : i < table.length := by simpa using hi
  refine ⟨List.getElem?_eq_getElem hi', hc, fun j m' hj hm' => ?_⟩
  have := hlt j hj
  have hj' : j < table.length := by omega
  rw [List.getElem?_eq_getElem hj'] at hm'
  cases hm'
  simpa using this

/-- No match (R99): no palette of the table covers the tile. -/
theorem choosePalette_none (table : PaletteTable) (t : Tile8) :
    choosePalette table t = none ↔ ∀ m ∈ table, covers m t = false := by
  unfold choosePalette
  rw [List.find?_eq_none]
  constructor
  · intro h m hm
    obtain ⟨i, hi, rfl⟩ := List.getElem_of_mem hm
    have := h (table[i], i) (by rw [List.mem_zipIdx_iff_getElem?]; simp)
    simpa using this
  · rintro h ⟨m, i⟩ hmi
    have := h m (by
      rw [List.mem_zipIdx_iff_getElem?] at hmi
      exact List.mem_of_getElem? hmi)
    simpa using this

/-- A covered tile maps element by element (R100). -/
theorem mapTile_getElem? (m : Palette) (t : Tile8) (h : covers m t = true) (i : Nat) :
    (mapTile m t)[i]? = (t[i]?).bind (fun c => mapLookup c m) := by
  induction t generalizing i with
  | nil => simp [mapTile]
  | cons c t ih =>
    simp only [covers, List.all_cons, Bool.and_eq_true] at h
    obtain ⟨v, hv⟩ := (inDom_iff c m).mp h.1
    have hc : mapTile m (c :: t) = v :: mapTile m t := by simp [mapTile, hv]
    rw [hc]
    cases i with
    | zero => simp [hv]
    | succ i => simpa using ih h.2 i

theorem mapTile_length (m : Palette) (t : Tile8) (h : covers m t = true) : (mapTile m t).length = t.length := by
  induction t with
  | nil => rfl
  | cons c t ih =>
    simp only [covers, List.all_cons, Bool.and_eq_true] at h
    obtain ⟨v, hv⟩ := (inDom_iff c m).mp h.1
    have hc : mapTile m (c :: t) = v :: mapTile m t := by simp [mapTile, hv]
    rw [hc, List.length_cons, List.length_cons, ih h.2]

/-- Steps 3 and 4 (R101 to R104): the candidate was found, and only TM grows; or it is new and there is room,
and TS, LUT and TM grow. -/
theorem placeCandidate_some (cand : CTile) (pid : Nat) (s s' : State) (h : placeCandidate cand pid s = some s') :
    (∃ e, mapLookup cand s.lut = some e ∧ s' = emitEntry e pid s) ∨
    (mapLookup cand s.lut = none ∧ s.ts.length ≠ 1024 ∧
      s' = emitEntry ⟨BitVec.ofNat 10 s.ts.length, false, false⟩ pid
        { s with ts := s.ts ++ [cand], lut := registerMirrors cand (BitVec.ofNat 10 s.ts.length) s.lut }) := by
  unfold placeCandidate at h
  cases hl : mapLookup cand s.lut with
  | some e =>
    rw [hl] at h
    exact .inl ⟨e, rfl, (Option.some.inj h).symm⟩
  | none =>
    rw [hl] at h
    by_cases hf : s.ts.length = 1024
    · simp [hf] at h
    · simp only [Config.maxTiles, hf, if_false] at h
      exact .inr ⟨rfl, hf, (Option.some.inj h).symm⟩

/-- The CapacityError of R102: the candidate is new and TS is full. -/
theorem placeCandidate_none (cand : CTile) (pid : Nat) (s : State) :
    placeCandidate cand pid s = none ↔ mapLookup cand s.lut = none ∧ s.ts.length = 1024 := by
  unfold placeCandidate
  cases hl : mapLookup cand s.lut with
  | some e => simp
  | none => by_cases hf : s.ts.length = 1024 <;> simp [hf]

/-- One pass of the loop (R98): an uncovered tile is recorded in INV; a covered one is placed. POS advances
by one either way (R25). -/
theorem convertTile_some (table : PaletteTable) (t : Tile8) (s s' : State) (h : convertTile table t s = some s') :
    (choosePalette table t = none ∧ s' = { s with inv := s.inv ++ [s.pos], pos := s.pos + 1 }) ∨
    (∃ m pid s1, choosePalette table t = some (m, pid) ∧ placeCandidate (mapTile m t) pid s = some s1 ∧
      s' = { s1 with pos := s1.pos + 1 }) := by
  unfold convertTile at h
  cases hc : choosePalette table t with
  | none =>
    rw [hc] at h
    exact .inl ⟨rfl, (Option.some.inj h).symm⟩
  | some mp =>
    obtain ⟨m, pid⟩ := mp
    rw [hc] at h
    obtain ⟨s1, h1, h2⟩ := Option.map_eq_some_iff.mp h
    exact .inr ⟨m, pid, s1, rfl, h1, h2.symm⟩

/-- The loop keeps what every pass keeps. -/
theorem convertTiles_induct (P : State → Prop) (table : PaletteTable) (tiles : List Tile8)
    (hstep : ∀ t ∈ tiles, ∀ s s', P s → convertTile table t s = some s' → P s')
    (s s' : State) (hs : P s) (h : convertTiles table tiles s = some s') : P s' := by
  induction tiles generalizing s with
  | nil =>
    cases h
    exact hs
  | cons t rest ih =>
    unfold convertTiles at h
    cases h1 : convertTile table t s with
    | none => simp [h1] at h
    | some s1 =>
      rw [h1] at h
      exact ih (fun u hu => hstep u (by simp [hu])) s1 (hstep t (by simp) s s1 hs h1) h

/-- The four registrations keep the canonical form of LUT. -/
theorem rising_registerMirrors (c : CTile) (tid : BitVec 10) (lut : PMap CTile LutEntry)
    (h : PMap.rising bytesLt lut = true) : PMap.rising bytesLt (registerMirrors c tid lut) = true := by
  unfold registerMirrors register
  exact rising_insertNew _ bytesLt_connected _ _ _ (rising_insertNew _ bytesLt_connected _ _ _
    (rising_insertNew _ bytesLt_connected _ _ _ (rising_insertNew _ bytesLt_connected _ _ _ h)))

/-- Adding a colour to a palette keeps its canonical form, so PALBUILD's palettes have it. -/
theorem rising_buildPalette (cs : List HwColor) (i : Nat) (m : Palette) (h : PMap.rising colorLt m = true) :
    PMap.rising colorLt (buildPalette cs i m) = true := by
  induction cs generalizing i m with
  | nil => exact h
  | cons c cs ih => exact ih (i + 1) _ (rising_insertNew _ colorLt_connected _ _ _ h)

end Sys2Proof.Machine
end

