-- ==== Sys2Proof/Laws/PerInstr.lean ====
section
/-! SUPPORT. Per-instruction family EncodedWord: an instruction is encoded in its own row's format, in a word
of that format's size, and an operation's word is its code alone (R48). One lemma per constructor. -/

namespace Sys2Proof.Laws

open Sys2Proof

/-- Which row's format an instruction is written in (R47, R50 to R52, R54). -/
def rowFormat : Instr → WordFormat
  | .hwcolor _ _ _ => .hwcolor
  | .colorword _ _ _ => .colorword
  | .tmword _ _ _ _ _ => .tmword
  | .tmbyte0 _ => .tmbyte0
  | .tmbyte1 _ _ _ _ _ => .tmbyte1
  | .planebyte _ _ _ _ _ _ _ _ => .planebyte
  | _ => .cmd

/-- The bytes a word of a format takes: the table's widths 8, 15 and 16 bits in whole bytes. -/
def formatBytes : WordFormat → Nat
  | .hwcolor => 2
  | .colorword => 2
  | .tmword => 2
  | .cmd => 1
  | .tmbyte0 => 1
  | .tmbyte1 => 1
  | .planebyte => 1

/-- The encoded word has its row's format and that format's size. -/
def EncodedWord.Statement (i : Instr) : Prop :=
  (encode i).format = rowFormat i ∧ (encode i).word.length = formatBytes (rowFormat i)

theorem EncodedWord.quant (r g b : Byte) : EncodedWord.Statement (.quant r g b) := ⟨rfl, rfl⟩
theorem EncodedWord.xlin8 (S : Surface) : EncodedWord.Statement (.xlin8 S) := ⟨rfl, rfl⟩
theorem EncodedWord.xlin16 (S : Surface) : EncodedWord.Statement (.xlin16 S) := ⟨rfl, rfl⟩
theorem EncodedWord.xscr (S : Surface) : EncodedWord.Statement (.xscr S) := ⟨rfl, rfl⟩
theorem EncodedWord.tprobe (S : Surface) (t : HwColor) (x0 y0 : Nat) :
    EncodedWord.Statement (.tprobe S t x0 y0) := ⟨rfl, rfl⟩
theorem EncodedWord.xlarge (S : Surface) (x0 y0 : Nat) : EncodedWord.Statement (.xlarge S x0 y0) := ⟨rfl, rfl⟩
theorem EncodedWord.split16 (t : Tile16) : EncodedWord.Statement (.split16 t) := ⟨rfl, rfl⟩
theorem EncodedWord.hflip16 (t : Tile16) : EncodedWord.Statement (.hflip16 t) := ⟨rfl, rfl⟩
theorem EncodedWord.vflip16 (t : Tile16) : EncodedWord.Statement (.vflip16 t) := ⟨rfl, rfl⟩
theorem EncodedWord.palbuild (P : Surface) (bpp : Nat) : EncodedWord.Statement (.palbuild P bpp) := ⟨rfl, rfl⟩
theorem EncodedWord.palraw (L : List RGB) : EncodedWord.Statement (.palraw L) := ⟨rfl, rfl⟩
theorem EncodedWord.convert (tiles : List Tile8) (table : Src PaletteTable) :
    EncodedWord.Statement (.convert tiles table) := ⟨rfl, rfl⟩
theorem EncodedWord.pack (ts : Src (List CTile)) (bpp : Nat) : EncodedWord.Statement (.pack ts bpp) := ⟨rfl, rfl⟩
theorem EncodedWord.packlin (ts : Src (List CTile)) : EncodedWord.Statement (.packlin ts) := ⟨rfl, rfl⟩
theorem EncodedWord.tmser (tm : Src (List TmEntry)) (pri : Bool) :
    EncodedWord.Statement (.tmser tm pri) := ⟨rfl, rfl⟩
theorem EncodedWord.tmsplit (tm : Src (List TmEntry)) (pri : Bool) :
    EncodedWord.Statement (.tmsplit tm pri) := ⟨rfl, rfl⟩
theorem EncodedWord.tmsplitc (tm : Src (List TmEntry)) (pri : Bool) :
    EncodedWord.Statement (.tmsplitc tm pri) := ⟨rfl, rfl⟩
theorem EncodedWord.hwcolor (b5 g5 r5 : BitVec 5) : EncodedWord.Statement (.hwcolor b5 g5 r5) := ⟨rfl, rfl⟩
theorem EncodedWord.colorword (b5 g5 r5 : BitVec 5) : EncodedWord.Statement (.colorword b5 g5 r5) := ⟨rfl, rfl⟩
theorem EncodedWord.tmword (v h p : Bool) (c : BitVec 3) (t : BitVec 10) :
    EncodedWord.Statement (.tmword v h p c t) := ⟨rfl, rfl⟩
theorem EncodedWord.tmbyte0 (t : BitVec 8) : EncodedWord.Statement (.tmbyte0 t) := ⟨rfl, rfl⟩
theorem EncodedWord.tmbyte1 (v h p : Bool) (c : BitVec 3) (t : BitVec 2) :
    EncodedWord.Statement (.tmbyte1 v h p c t) := ⟨rfl, rfl⟩
theorem EncodedWord.planebyte (x0 x1 x2 x3 x4 x5 x6 x7 : Bool) :
    EncodedWord.Statement (.planebyte x0 x1 x2 x3 x4 x5 x6 x7) := ⟨rfl, rfl⟩

end Sys2Proof.Laws
end

