-- ==== Sys2Proof/Tests/Slice0.lean ====
section
/-! SUPPORT. The model's own tests. Expected values are the vectors of spec/95_test_vectors.md (V, P, S) or are
worked by hand from the rule cited; none is pasted from the model. -/

namespace Sys2Proof.Tests

open Sys2Proof Sys2Proof.Machine

/-! ## Helpers -/

/-- The next state of an outcome, if it is one. -/
def nextOf : Host.Outcome State Fault Refusal → Option State
  | .next s => some s
  | .fault _ => none
  | .refused _ => none

/-- The result an operation delivered last. -/
def resultOf (o : Host.Outcome State Fault Refusal) : Option OpResult := (nextOf o).bind (fun s => s.outbox.getLast?)

/-- The refusal of an outcome, if it is one. -/
def refusalOf : Host.Outcome State Fault Refusal → Option Refusal
  | .next _ => none
  | .fault _ => none
  | .refused r => some r

/-- The fault of an outcome, if it is one. -/
def faultOf : Host.Outcome State Fault Refusal → Option Fault
  | .next _ => none
  | .fault r => some r
  | .refused _ => none

/-- The kind of the error delivered, if one was (U6: no test looks at a failed check's info). -/
def errOf (o : Host.Outcome State Fault Refusal) : Option ErrKind :=
  (resultOf o).bind (fun r => match r with | .ok _ => none | .err k _ => some k)

/-- A surface of one colour. -/
def plain (w h : Nat) (p : RGB) : Surface := ⟨w, h, List.replicate h (List.replicate w p)⟩

/-- The surface whose pixel (x, y) is `f x y`. -/
def draw (w h : Nat) (f : Nat → Nat → RGB) : Surface :=
  ⟨w, h, (List.range h).map (fun y => (List.range w).map (fun x => f x y))⟩

def black : RGB := ⟨0, 0, 0⟩
def red : RGB := ⟨255, 0, 0⟩
def green : RGB := ⟨0, 255, 0⟩
def blue : RGB := ⟨0, 0, 255⟩
def white : RGB := ⟨255, 255, 255⟩
def brown : RGB := ⟨128, 64, 32⟩

/-- The palette image PIMG of spec/95 section 2.4. -/
def pimg : Surface :=
  ⟨16, 1, [[black, red, green, blue, black, white, brown, red, ⟨8, 16, 24⟩, ⟨8, 16, 24⟩, ⟨15, 8, 7⟩,
    ⟨123, 45, 67⟩, white, black, black, black]]⟩

/-- The table PT0 of spec/95 section 2.4, keys rising. -/
def pt0 : PaletteTable :=
  [[(0x0000, 0), (0x001F, 1), (0x03E0, 2), (0x7C00, 3)],
   [(0x0000, 0), (0x001F, 3), (0x1110, 2), (0x7FFF, 1)],
   [(0x0021, 2), (0x0C41, 0), (0x20AF, 3)],
   [(0x0000, 1), (0x7FFF, 0)]]

/-- The palette "colour i to index i", i below 4, of spec/95 section 2.5. -/
def pal4 : Palette := [(0, 0), (1, 1), (2, 2), (3, 3)]

/-- The tile of 0 but for the positions listed. -/
def dots {w : Nat} (l : List (Nat × BitVec w)) : List (BitVec w) :=
  (List.range 64).map (fun i => (l.lookup i).getD 0)

/-- An entry as spec/95 writes it. -/
def entry (tid : BitVec 10) (pid : BitVec 3) (h v : Bool) : TmEntry := ⟨tid, pid, h, v⟩

/-! ## WellFormed refuses an ill-formed term for each check -/

theorem test_wf_surface_missing_row : Instr.wellFormed (.xlin8 ⟨1, 2, [[black]]⟩) = false := by decide
theorem test_wf_surface_short_row : Instr.wellFormed (.xscr ⟨2, 1, [[black]]⟩) = false := by decide
theorem test_wf_tile16_short : Instr.wellFormed (.split16 (List.replicate 255 0)) = false := by decide +kernel
theorem test_wf_bpp_zero : Instr.wellFormed (.palbuild pimg 0) = false := by decide
theorem test_wf_bpp_nine : Instr.wellFormed (.pack .store 9) = false := by decide
theorem test_wf_tile8_long : Instr.wellFormed (.convert [List.replicate 65 0] .store) = false := by decide
theorem test_wf_ctile_short : Instr.wellFormed (.packlin (.given [List.replicate 63 0])) = false := by decide
theorem test_wf_nine_palettes : Instr.wellFormed (.convert [] (.given (List.replicate 9 []))) = false := by decide
theorem test_wf_palette_key_twice : Instr.wellFormed (.convert [] (.given [[(1, 0), (1, 2)]])) = false := by decide
theorem test_wf_accepts : Instr.wellFormed (.convert [List.replicate 64 0] (.given pt0)) = true := by decide

/-! ## Decoding words written out from the tables of R47, R50 to R52 and R109 -/

theorem test_dec_quant : decode ⟨.cmd, [0b00000000], [.chan 1, .chan 2, .chan 3]⟩ = .ok (.quant 1 2 3) := by rfl
theorem test_dec_xlin8 : decode ⟨.cmd, [0b00010000], [.surface pimg]⟩ = .ok (.xlin8 pimg) := by rfl
theorem test_dec_xlin16 : decode ⟨.cmd, [0b00010001], [.surface pimg]⟩ = .ok (.xlin16 pimg) := by rfl
theorem test_dec_xscr : decode ⟨.cmd, [0b00010010], [.surface pimg]⟩ = .ok (.xscr pimg) := by rfl
theorem test_dec_tprobe : decode ⟨.cmd, [0b00010011], [.surface pimg, .color 9, .coord 8, .coord 16]⟩
    = .ok (.tprobe pimg 9 8 16) := by rfl
theorem test_dec_xlarge : decode ⟨.cmd, [0b00010100], [.surface pimg, .coord 16, .coord 32]⟩
    = .ok (.xlarge pimg 16 32) := by rfl
theorem test_dec_split16 : decode ⟨.cmd, [0b00010101], [.tile16 [1]]⟩ = .ok (.split16 [1]) := by rfl
theorem test_dec_hflip16 : decode ⟨.cmd, [0b00010110], [.tile16 [1]]⟩ = .ok (.hflip16 [1]) := by rfl
theorem test_dec_vflip16 : decode ⟨.cmd, [0b00010111], [.tile16 [1]]⟩ = .ok (.vflip16 [1]) := by rfl
theorem test_dec_palbuild : decode ⟨.cmd, [0b00100000], [.surface pimg, .bpp 2]⟩ = .ok (.palbuild pimg 2) := by rfl
theorem test_dec_palraw : decode ⟨.cmd, [0b00100001], [.rgbs [red]]⟩ = .ok (.palraw [red]) := by rfl
theorem test_dec_convert : decode ⟨.cmd, [0b00110000], [.tiles [[1]], .table (.given pt0)]⟩
    = .ok (.convert [[1]] (.given pt0)) := by rfl
theorem test_dec_pack : decode ⟨.cmd, [0b01000000], [.tileset .store, .bpp 4]⟩ = .ok (.pack .store 4) := by rfl
theorem test_dec_packlin : decode ⟨.cmd, [0b01000001], [.tileset .store]⟩ = .ok (.packlin .store) := by rfl
theorem test_dec_tmser : decode ⟨.cmd, [0b01010000], [.tilemap .store, .pri true]⟩ = .ok (.tmser .store true) := by rfl
theorem test_dec_tmsplit : decode ⟨.cmd, [0b01010001], [.tilemap .store, .pri false]⟩
    = .ok (.tmsplit .store false) := by rfl
theorem test_dec_tmsplitc : decode ⟨.cmd, [0b01010010], [.tilemap .store, .pri true]⟩
    = .ok (.tmsplitc .store true) := by rfl
/-- 0x20AF = 0 01000 00101 01111 (R61's example), low byte first. -/
theorem test_dec_hwcolor : decode ⟨.hwcolor, [0b10101111, 0b00100000], []⟩ = .ok (.hwcolor 8 5 15) := by rfl
theorem test_dec_colorword : decode ⟨.colorword, [0b10101111, 0b00100000], []⟩ = .ok (.colorword 8 5 15) := by rfl
theorem test_dec_colorword_bit15 : decode ⟨.colorword, [0xAF, 0xA0], []⟩ = .error (.badWord .colorword) := by rfl
/-- 0x752C = 0 1 1 101 0100101100 (R126): vflip 0, hflip 1, priority 1, palette 5, tile 300. -/
theorem test_dec_tmword : decode ⟨.tmword, [0b00101100, 0b01110101], []⟩ = .ok (.tmword false true true 5 300) := by rfl
theorem test_dec_tmbyte0 : decode ⟨.tmbyte0, [0x2C], []⟩ = .ok (.tmbyte0 0x2C) := by rfl
theorem test_dec_tmbyte1 : decode ⟨.tmbyte1, [0b01110101], []⟩ = .ok (.tmbyte1 false true true 5 1) := by rfl
theorem test_dec_planebyte : decode ⟨.planebyte, [0b10000011], []⟩
    = .ok (.planebyte true false false false false false true true) := by rfl
theorem test_dec_unknown : decode ⟨.cmd, [0x18], []⟩ = .error (.unknownCode 0x18) := by rfl
theorem test_dec_operand_order : decode ⟨.cmd, [0x20], [.bpp 2, .surface pimg]⟩ = .error (.badOperands .palbuild) := by rfl
/-- The bare table words of R47: each of the seventeen codes names its operation. -/
theorem test_table_words : (codeTable.map (fun row => (decodeTableWord 8 row.1.toNat).isSome)).all id = true := by decide
theorem test_table_word_unknown : decodeTableWord 8 0x31 = none := by rfl

/-! ## One step of each operation -/

/-- V9, R61's example. -/
theorem test_quant : resultOf (exec (.quant 123 45 67) State.reset) = some (.ok (.color 0x20AF)) := by decide
/-- V10: r5 = 1, g5 = 1, b5 = 0. -/
theorem test_quant_truncates : quantize ⟨15, 8, 7⟩ = 0x0021 := by decide

/-- V13: a 16×8 surface red on the left and blue on the right gives the red tile, then the blue one. -/
theorem test_xlin8_order : resultOf (exec (.xlin8 (draw 16 8 (fun x _ => if x < 8 then red else blue))) State.reset)
    = some (.ok (.tiles8 [List.replicate 64 0x001F, List.replicate 64 0x7C00])) := by decide +kernel
/-- V13: 12×8. -/
theorem test_xlin8_size : errOf (exec (.xlin8 (plain 12 8 red)) State.reset) = some .validation := by decide
/-- V14: 24×16 fails. -/
theorem test_xlin16_size : errOf (exec (.xlin16 (plain 24 16 red)) State.reset) = some .validation := by decide
theorem test_xlin16_one : resultOf (exec (.xlin16 (plain 16 16 red)) State.reset)
    = some (.ok (.tiles16 [List.replicate 256 0x001F])) := by decide +kernel
/-- V15: 256×128 fails; 0×0 is empty. -/
theorem test_xscr_size : errOf (exec (.xscr (plain 256 128 red)) State.reset) = some .validation := by decide +kernel
theorem test_xscr_empty : resultOf (exec (.xscr (plain 0 0 red)) State.reset) = some (.ok (.tiles8 [])) := by decide
/-- V16: pixel (7,7) differs only in low bits. -/
theorem test_tprobe_same : resultOf (exec (.tprobe (draw 8 8 (fun x y => if x = 7 ∧ y = 7 then ⟨248, 7, 250⟩
    else ⟨255, 0, 255⟩)) 0x7C1F 0 0) State.reset) = some (.ok (.bool false)) := by decide +kernel
/-- V16: pixel (7,7) = (247, 0, 255) quantizes to 0x7C1E. -/
theorem test_tprobe_differs : resultOf (exec (.tprobe (draw 8 8 (fun x y => if x = 7 ∧ y = 7 then ⟨247, 0, 255⟩
    else ⟨255, 0, 255⟩)) 0x7C1F 0 0) State.reset) = some (.ok (.bool true)) := by decide +kernel
/-- V16: position (4,0) on a 16×8 surface is inside but unaligned. -/
theorem test_tprobe_unaligned : refusalOf (exec (.tprobe (plain 16 8 red) 0 4 0) State.reset)
    = some (.unalignedPosition "TPROBE") := by decide
/-- V17: (24,0) on a 32×16 surface is out of bounds, though also unaligned. -/
theorem test_xlarge_bounds : errOf (exec (.xlarge (plain 32 16 red) 24 0) State.reset) = some .validation := by decide
theorem test_xlarge_right_half : resultOf (exec (.xlarge (draw 32 16 (fun x _ => if x < 16 then red else blue)) 16 0)
    State.reset) = some (.ok (.tile16 (List.replicate 256 0x7C00))) := by decide +kernel

/-- The large tile `t[i] = i`. -/
def ramp : Tile16 := (List.range 256).map (BitVec.ofNat 15)

/-- V18: first and last elements of each quadrant: TL 0 and 119, TR 8 and 127, BL 128 and 247, BR 136 and 255. -/
theorem test_split16 : ((quad ramp 0 0)[0]?, (quad ramp 0 0)[63]?, (quad ramp 1 0)[0]?, (quad ramp 1 0)[63]?,
    (quad ramp 0 1)[0]?, (quad ramp 0 1)[63]?, (quad ramp 1 1)[0]?, (quad ramp 1 1)[63]?)
    = (some 0, some 119, some 8, some 127, some 128, some 247, some 136, some 255) := by decide +kernel
/-- V19: elements 0, 15, 16 of HFLIP16; elements 0, 255 of VFLIP16. -/
theorem test_hflip16 : ((hflip16 ramp)[0]?, (hflip16 ramp)[15]?, (hflip16 ramp)[16]?) = (some 15, some 0, some 31) := by
  decide +kernel
theorem test_vflip16 : ((vflip16 ramp)[0]?, (vflip16 ramp)[255]?) = (some 240, some 15) := by decide +kernel

/-- Section 2.4: the table of PIMG at bpp 2 (duplicates keep the first offset and close no gap), in PT. -/
theorem test_palbuild : (nextOf (exec (.palbuild pimg 2) State.reset)).map (·.pt) = some pt0 := by decide +kernel
/-- P4: a 17×1 image; PT keeps its old value. -/
theorem test_palbuild_width : (nextOf (exec (.palbuild (plain 17 1 red) 2) (State.mk pt0 [] [] [] [] 0 [] [] 256))).map
    (fun s => (s.pt, s.outbox.length)) = some (pt0, 1) := by decide
/-- C1: a 16×8 image at bpp 2 has 128 pixels, above 32. -/
theorem test_palbuild_count : errOf (exec (.palbuild (plain 16 8 red) 2) State.reset) = some .capacity := by decide
/-- R85's example: `1F 00 10 11`. -/
theorem test_palraw : resultOf (exec (.palraw [red, brown]) State.reset) = some (.ok (.bytes [0x1F, 0x00, 0x10, 0x11])) := by
  decide
/-- Section 2.4: with MAX_COLORS = 256, 257 colours are too many. -/
theorem test_palraw_too_long : errOf (exec (.palraw (List.replicate 257 red)) State.reset) = some .capacity := by
  decide +kernel

/-- The tile T of V30: all 0 but T[0] = 1. -/
def dotT : Tile8 := dots [(0, 1)]

/-- V30: the four orientations share one tile. -/
theorem test_convert_four : (nextOf (exec (.convert [dotT, dots [(7, 1)], dots [(56, 1)], dots [(63, 1)]] (.given [pal4]))
    State.reset)).map (·.tm)
    = some [entry 0 0 false false, entry 0 0 true false, entry 0 0 false true, entry 0 0 true true] := by decide +kernel
/-- V33: `hvflip8(T) = T`: h is registered before v. -/
theorem test_convert_symmetric : (nextOf (exec (.convert [dots [(0, 1), (63, 1)], dots [(7, 1), (56, 1)]] (.given [pal4]))
    State.reset)).map (fun s => (s.ts.length, s.tm)) = some (1, [entry 0 0 false false, entry 0 0 true false]) := by
  decide +kernel
/-- V37, first match: WHITE with BLACK is covered by palettes 1 and 3 and gets 1. -/
theorem test_convert_first_match : (nextOf (exec (.convert [dots [(0, 0x7FFF)]] .store) (State.mk pt0 [] [] [] [] 0 [] [] 256))).map
    (fun s => (s.tm, s.ts)) = some ([entry 0 1 false false], [dots [(0, 1)]]) := by decide +kernel
/-- V38: tiles 1 and 3 are covered by no palette. -/
theorem test_convert_batch_error : resultOf (exec (.convert [dots [], dots [(0, 0x7FFF), (1, 0x03E0)], dots [], dots [(0, 0x1234)]]
    .store) (State.mk pt0 [] [] [] [] 0 [] [] 256)) = some (.err .paletteMatch (.positions [1, 3])) := by decide +kernel

/-- V25: `p = (x + y) mod 4` at bpp 2. -/
theorem test_pack_rows : packTile ((List.range 64).map (fun i => BitVec.ofNat 8 ((i % 8 + i / 8) % 4))) 2
    = [0x55, 0x33, 0xAA, 0x66, 0x55, 0xCC, 0xAA, 0x99, 0x55, 0x33, 0xAA, 0x66, 0x55, 0xCC, 0xAA, 0x99] := by decide +kernel
/-- Section 2.3: `p[9] = 5` at bpp 3: bytes 2 and 17 are 40. -/
theorem test_pack_odd_plane : packTile (dots [(9, 5)]) 3
    = [0, 0, 0x40, 0, 0, 0, 0, 0, 0, 0, 0, 0, 0, 0, 0, 0, 0, 0x40, 0, 0, 0, 0, 0, 0] := by decide +kernel
/-- R112's example, and the tile unchanged. -/
theorem test_packlin : resultOf (exec (.packlin (.given [dots [(1, 1), (63, 0x3F)]])) State.reset)
    = some (.ok (.bytes (dots [(1, 1), (63, 0x3F)]))) := by decide +kernel

/-- V42, V43, V45, V46. -/
theorem test_tmword : (tmWord (entry 1023 7 true true) true, tmWord (entry 300 5 true false) true,
    tmWord (entry 255 0 false true) false, tmWord (entry 512 3 false false) true)
    = ((0xFF, 0xFF), (0x2C, 0x75), (0xFF, 0x80), (0x00, 0x2E)) := by decide
/-- Section 2.6: 1023 entries are a fault; the empty tilemap gives the empty buffer. -/
theorem test_tmser_length : faultOf (exec (.tmser (.given (List.replicate 1023 (entry 1 0 false false))) false) State.reset)
    = some .contractViolation := by decide +kernel
theorem test_tmser_empty : resultOf (exec (.tmser .store true) State.reset) = some (.ok (.bytes [])) := by decide
theorem test_tmsplit_empty : resultOf (exec (.tmsplit .store true) State.reset) = some (.ok (.buffers [] [])) := by decide
/-- R123's example for the two buffers of an entry. -/
theorem test_tmsplit_bytes : (tmLow [entry 300 5 true false] true, tmHigh [entry 300 5 true false] true) = ([0x2C], [0x75]) := by
  decide
/-- R124's example: 1024 entries (1,0,F,F): 1024 bytes 01, then 1024 bytes 00. -/
theorem test_tmsplitc : resultOf (exec (.tmsplitc (.given (List.replicate 1024 (entry 1 0 false false))) false) State.reset)
    = some (.ok (.bytes (List.replicate 1024 1 ++ List.replicate 1024 0))) := by decide +kernel

/-- A data word is refused by its mnemonic. -/
theorem test_data_word : refusalOf (step (State.reset.withFetchWord 16 0x20AF)) = some (.dataFormat "COLORWORD") := by decide
/-- After reset the engine waits. -/
theorem test_wait : nextOf (step State.reset) = some State.reset := by decide
/-- The host's QUANT 0, 0, 0 as the first operation after reset. -/
theorem test_first_operation : nextOf (step (State.reset.withFetchWord 8 0))
    = some (State.reset.deliver (.ok (.color 0))) := by decide

end Sys2Proof.Tests
end

