-- ==== Sys2Proof/Tests/Witnesses.lean ====
section
/-! SUPPORT. For every statement of Certificates/Slice0/Obligations.lean that has hypotheses, one named
theorem: a concrete state and operands that meet all of them together, at a boundary value of each clause.
They are no statements for the provers. -/

namespace Sys2Proof.Tests

open Sys2Proof Sys2Proof.Machine

/-! ## States and operands -/

/-- A reset engine with PT0 built. -/
def withPt0 : State := { State.reset with pt := pt0 }

/-- The QUANT command of R61's example, issued. -/
def quantCmd : Command := ⟨.cmd, [0x00], [.chan 123, .chan 45, .chan 67]⟩

def zeroTile : CTile := List.replicate 64 0

def zeroTile8 : Tile8 := List.replicate 64 0

/-- An engine after one CONVERT of the all-black tile, with QUANT issued. -/
def afterOneTile : State :=
  { State.reset with
    pt := [pal4], ts := [zeroTile], tm := [entry 0 0 false false], lut := [(zeroTile, ⟨0, false, false⟩)],
    pos := 1, inbox := [quantCmd] }

@[simp] theorem plain_W (w h : Nat) (p : RGB) : (plain w h p).W = w := rfl

@[simp] theorem plain_H (w h : Nat) (p : RGB) : (plain w h p).H = h := rfl

@[simp] theorem plain_ok (w h : Nat) (p : RGB) : (plain w h p).ok = true := by
  simp [plain, Surface.ok]

theorem surfRead_plain (w h x y : Nat) (p : RGB) (hx : x < w) (hy : y < h) : surfRead (plain w h p) x y = some p := by
  simp [surfRead, plain, hx, hy]

theorem pixelColor_plain (w h x y : Nat) (p : RGB) (hx : x < w) (hy : y < h) :
    pixelColor (plain w h p) x y = some (quantize p) := by
  simp [pixelColor, surfRead_plain w h x y p hx hy]

theorem flip_zeroTile (h v : Bool) : flipTile zeroTile h v = zeroTile := by
  revert h v; decide +kernel

theorem pal4_injective : Injective pal4 := by
  have key : ∀ c i, mapLookup c pal4 = some i → c = i.setWidth 15 := by
    intro c i h
    simp only [pal4, mapLookup_cons, mapLookup_nil] at h
    split_ifs at h with h0 h1 h2 h3 <;> simp_all <;> subst h <;> rfl
  intro c d i hc hd
  rw [key c i hc, key d i hd]

theorem afterOneTile_pass : PassInv afterOneTile where
  few := by decide
  sizes := by decide
  canonical := by decide
  sound := by
    intro k e h
    simp only [afterOneTile, mapLookup_cons, mapLookup_nil] at h
    split at h
    · cases h
      exact ⟨zeroTile, rfl, by rw [flip_zeroTile]; assumption⟩
    · cases h
  complete := by
    intro c hc h v
    have : c = zeroTile := by simpa [afterOneTile] using hc
    subst this
    rw [flip_zeroTile]
    decide
  minimal := by simp [afterOneTile]
  entries := by decide

theorem afterOneTile_inv : Inv afterOneTile where
  table := ⟨by decide, by decide, by
    intro m hm
    have : m = pal4 := by simpa [afterOneTile] using hm
    subst this
    exact pal4_injective, by decide⟩
  pass := afterOneTile_pass
  noInvalid := rfl
  position := rfl

/-! ## The machine -/

theorem witness_StepRunsTheDecodedOperation :
    afterOneTile.inbox = quantCmd :: [] ∧ decode quantCmd = .ok (.quant 123 45 67) := ⟨rfl, rfl⟩

theorem witness_StepWaitsAndRefuses :
    State.reset.inbox = [] ∧
    { State.reset with inbox := [⟨.cmd, [0x53], []⟩] }.inbox = [⟨.cmd, [0x53], []⟩] ∧
    decode ⟨.cmd, [0x53], []⟩ = .error (.unknownCode 0x53) := ⟨rfl, rfl, rfl⟩

theorem witness_UnknownCodesAreRefused : ∀ o : OpCode, o.code ≠ 0x53 := by
  intro o
  cases o <;> decide

theorem witness_EncodeOfDecodeIsTheCommand : decode quantCmd = .ok (.quant 123 45 67) := rfl

/-! ## Tile Extractor -/

theorem witness_Xlin8SlicesInRasterOrder :
    (plain 8 8 red).ok = true ∧ (plain 8 8 red).W % 8 = 0 ∧ (plain 8 8 red).H % 8 = 0 ∧
    0 < (plain 8 8 red).W / 8 ∧ 0 < (plain 8 8 red).H / 8 ∧
    (plain 9 8 red).ok = true ∧ (plain 9 8 red).W % 8 ≠ 0 ∧ (plain 8 7 red).ok = true ∧ (plain 8 7 red).H % 8 ≠ 0 :=
  ⟨plain_ok _ _ _, by decide, by decide, by decide, by decide, plain_ok _ _ _, by decide, plain_ok _ _ _, by decide⟩

theorem witness_Xlin16SlicesInRasterOrder :
    (plain 16 16 red).ok = true ∧ (plain 16 16 red).W % 16 = 0 ∧ (plain 16 16 red).H % 16 = 0 ∧
    0 < (plain 16 16 red).W / 16 ∧ 0 < (plain 16 16 red).H / 16 ∧
    (plain 24 16 red).ok = true ∧ (plain 24 16 red).W % 16 ≠ 0 ∧ (plain 16 15 red).ok = true ∧
    (plain 16 15 red).H % 16 ≠ 0 :=
  ⟨plain_ok _ _ _, by decide, by decide, by decide, by decide, plain_ok _ _ _, by decide, plain_ok _ _ _, by decide⟩

/-- The largest size accepted, its last screen and tile, and a failing size of each kind. -/
theorem witness_XscrSlicesInScreenBlockOrder :
    (plain 512 512 red).ok = true ∧ (plain 512 512 red).W % 256 = 0 ∧ (plain 512 512 red).H % 256 = 0 ∧
    (plain 512 512 red).W ≤ 512 ∧ (plain 512 512 red).H ≤ 512 ∧ 1 < (plain 512 512 red).W / 256 ∧
    1 < (plain 512 512 red).H / 256 ∧ (31 : Nat) < 32 ∧
    (plain 768 256 red).ok = true ∧ 512 < (plain 768 256 red).W ∧
    (plain 256 768 red).ok = true ∧ 512 < (plain 256 768 red).H ∧
    (plain 128 256 red).ok = true ∧ (plain 128 256 red).W % 256 ≠ 0 ∧
    (plain 256 128 red).ok = true ∧ (plain 256 128 red).H % 256 ≠ 0 := by
  simp

theorem witness_XscrIsXlin8OnOneScreenColumn :
    (plain 256 512 red).ok = true ∧ (plain 256 512 red).W = 256 ∧ (plain 256 512 red).H % 256 = 0 ∧
    (plain 256 512 red).H ≤ 512 := by
  simp

/-- The last block of a 16×8 surface; one pixel too far; inside but unaligned. -/
theorem witness_TprobeFindsAPixelThatDiffers :
    (plain 16 8 red).ok = true ∧
    ((8 : Nat) + 8 ≤ (plain 16 8 red).W ∧ (0 : Nat) + 8 ≤ (plain 16 8 red).H) ∧ ((8 : Nat) % 8 = 0 ∧ (0 : Nat) % 8 = 0) ∧
    ¬ ((9 : Nat) + 8 ≤ (plain 16 8 red).W ∧ (0 : Nat) + 8 ≤ (plain 16 8 red).H) ∧
    ((7 : Nat) + 8 ≤ (plain 16 8 red).W ∧ (0 : Nat) + 8 ≤ (plain 16 8 red).H) ∧
    ¬ ((7 : Nat) % 8 = 0 ∧ (0 : Nat) % 8 = 0) := by
  simp

theorem witness_XlargeExtractsTheBlock :
    (plain 32 16 red).ok = true ∧
    ((16 : Nat) + 16 ≤ (plain 32 16 red).W ∧ (0 : Nat) + 16 ≤ (plain 32 16 red).H) ∧
    ((16 : Nat) % 16 = 0 ∧ (0 : Nat) % 16 = 0) ∧
    ¬ ((17 : Nat) + 16 ≤ (plain 32 16 red).W ∧ (0 : Nat) + 16 ≤ (plain 32 16 red).H) ∧
    ((15 : Nat) + 16 ≤ (plain 32 16 red).W ∧ (0 : Nat) + 16 ≤ (plain 32 16 red).H) ∧
    ¬ ((15 : Nat) % 16 = 0 ∧ (0 : Nat) % 16 = 0) := by
  simp

theorem witness_Split16GivesTheFourQuadrants : ramp.length = 256 ∧ (7 : Nat) < 8 := by simp [ramp]

theorem witness_LargeMirrorsReverseColumnsOrRows : ramp.length = 256 ∧ (15 : Nat) < 16 := by simp [ramp]

theorem witness_LargeMirrorsAndTheSplit : ramp.length = 256 := by simp [ramp]

theorem witness_QuadrantsOfAnExtractedTile :
    (plain 16 16 red).ok = true ∧ 0 + 16 ≤ (plain 16 16 red).W ∧ 0 + 16 ≤ (plain 16 16 red).H ∧ (1 : Nat) < 2 := by
  simp

/-! ## Palette Table Builder -/

/-- PIMG at bpp 1, at the pixel limit 16 of that depth; group 0 holds black at index 0. -/
theorem witness_PalbuildGroupsInScanOrder :
    pimg.ok = true ∧ (1 : Nat) ≤ 1 ∧ (1 : Nat) ≤ 8 ∧ pimg.W = 16 ∧ pimg.W * pimg.H ≤ min (2 ^ 1 * 8) 256 ∧
    (plain 16 16 red).ok = true ∧ (1 : Nat) ≤ 8 ∧ (8 : Nat) ≤ 8 ∧ (plain 16 16 red).W = 16 ∧
    (plain 16 16 red).W * (plain 16 16 red).H ≤ min (2 ^ 8 * 8) 256 := by
  refine ⟨by decide, ?_⟩
  simp
  decide

theorem witness_PalbuildErrorsLeaveTheTable :
    (plain 17 100 red).ok = true ∧ (plain 17 100 red).W ≠ 16 ∧ (plain 15 1 red).ok = true ∧ (plain 15 1 red).W ≠ 16 ∧
    (plain 16 3 red).ok = true ∧ (plain 16 3 red).W = 16 ∧
    min (2 ^ 2 * 8) 256 < (plain 16 3 red).W * (plain 16 3 red).H ∧
    (plain 16 17 red).ok = true ∧ min (2 ^ 8 * 8) 256 < (plain 16 17 red).W * (plain 16 17 red).H := by
  simp

theorem witness_BuiltTablesAreWellFormed :
    pimg.ok = true ∧ (1 : Nat) ≤ 2 ∧ (2 : Nat) ≤ 8 ∧ pimg.W = 16 ∧ pimg.W * pimg.H ≤ min (2 ^ 2 * 8) 256 ∧
    [(0x0021, 2), (0x0C41, 0), (0x20AF, 3)] ∈ groupPalettes (scanColors pimg) (2 ^ 2) := by decide +kernel

theorem witness_PalrawEmitsLittleEndianColors :
    (List.replicate 256 red).length ≤ State.reset.maxColors ∧ (List.replicate 256 red)[255]? = some red ∧
    State.reset.maxColors < (List.replicate 257 red).length := by decide +kernel

/-- Section 2.4: palette 2, colour 0x20AF, index 3. -/
theorem witness_PaletteIndexIsTheSlotInPalrawOutput :
    pimg.ok = true ∧ (1 : Nat) ≤ 2 ∧ (2 : Nat) ≤ 8 ∧
    (groupPalettes (scanColors pimg) (2 ^ 2))[2]? = some [(0x0021, 2), (0x0C41, 0), (0x20AF, 3)] ∧
    mapLookup 0x20AF ([(0x0021, 2), (0x0C41, 0), (0x20AF, 3)] : Palette) = some 3 := by decide +kernel

/-! ## Tile Deduplicator -/

theorem witness_SmallMirrorsReverseColumnsOrRows : zeroTile.length = 64 ∧ (7 : Nat) < 8 := by decide

theorem witness_FlipsComposeByExclusiveOr : zeroTile.length = 64 := by decide

theorem witness_EntriesReproduceTheirTiles :
    tilesOk [dotT] = true ∧ tableOk [pal4] = true ∧ (convertTiles [pal4] [dotT] withPt0.clearPass).isSome = true := by
  decide +kernel

theorem witness_EveryTileKeepsThePassInvariant :
    dotT.length = 64 ∧ tableOk [pal4] = true ∧ PassInv afterOneTile ∧
    (convertTile [pal4] dotT afterOneTile).isSome = true :=
  ⟨by decide, by decide, afterOneTile_pass, by decide +kernel⟩

theorem witness_ATileAndItsMirrorShareOneTile :
    dotT.length = 64 ∧ paletteOk pal4 = true ∧ Injective pal4 ∧ ∀ c ∈ dotT, (mapLookup c pal4).isSome = true :=
  ⟨by decide, by decide, pal4_injective, List.all_eq_true.mp (by decide +kernel)⟩

theorem witness_ConvertForgetsTheLastPass :
    afterOneTile.pt = { State.reset with pt := [pal4] }.pt ∧
    (nextOf (exec (.convert [dotT] .store) afterOneTile)).isSome = true ∧
    (nextOf (exec (.convert [dotT] .store) { State.reset with pt := [pal4] })).isSome = true := by decide +kernel

theorem witness_ConvertOnAnEmptyTableReportsEveryTile :
    tilesOk [dotT] = true ∧ [dotT] ≠ [] ∧ State.reset.pt = [] := by decide

/-! Tiles of 1024 and of 1025 mirror classes: tile `k` has 1 in its top-left corner, 0 in the other three, and
the two bytes of `k` beside the first. -/

/-- The palette "colour i to index i" for all 256 indices. -/
def pal256 : Palette := (List.range 256).map (fun i => (BitVec.ofNat 15 i, BitVec.ofNat 8 i))

/-- The number of a class as a row of index values. -/
def classTile (w k : Nat) : List (BitVec w) :=
  [1, BitVec.ofNat w (k % 256), BitVec.ofNat w (k / 256)] ++ List.replicate 61 0

def classTiles (n : Nat) : List Tile8 := (List.range n).map (classTile 15)

theorem lookup_pal256 (i : Nat) (hi : i < 256) : List.lookup (BitVec.ofNat 15 i) pal256 = some (BitVec.ofNat 8 i) := by
  have h : ∀ i : Fin 256, List.lookup (BitVec.ofNat 15 i.val) pal256 = some (BitVec.ofNat 8 i.val) := by decide +kernel
  exact h ⟨i, hi⟩

theorem classTile_lookup (k : Nat) (hk : k < 65536) (c : HwColor) (hc : c ∈ classTile 15 k) :
    List.lookup c pal256 = some (c.setWidth 8) := by
  have key : ∀ i, i < 256 → List.lookup (BitVec.ofNat 15 i) pal256 = some ((BitVec.ofNat 15 i).setWidth 8) := by
    intro i hi
    rw [lookup_pal256 i hi]
    congr 1
    apply BitVec.eq_of_toNat_eq
    simp
  simp only [classTile, List.mem_append, List.mem_cons, List.mem_replicate, List.not_mem_nil, or_false] at hc
  rcases hc with (rfl | rfl | rfl) | ⟨-, rfl⟩
  · exact key 1 (by decide)
  · exact key _ (by omega)
  · exact key _ (by omega)
  · exact key 0 (by decide)

theorem firstCover_class (k : Nat) (hk : k < 65536) : firstCover [pal256] (classTile 15 k) = some 0 := by
  have : ((classTile 15 k).all fun c => (List.lookup c pal256).isSome) = true := by
    rw [List.all_eq_true]
    intro c hc
    simp [classTile_lookup k hk c hc]
  simp [firstCover, List.findIdx?_cons, this]

theorem tileIndices_class (k : Nat) (hk : k < 65536) : tileIndices [pal256] (classTile 15 k) = some (classTile 8 k) := by
  have hm : (classTile 15 k).filterMap (fun c => List.lookup c pal256) = (classTile 15 k).map (fun c => c.setWidth 8) :=
    filterMap_eq_map_of_some _ _ _ (classTile_lookup k hk)
  simp only [tileIndices, firstCover_class k hk, Option.bind_some, List.getElem?_cons_zero, Option.map_some, hm]
  congr 1
  have e : ∀ i : Nat, (BitVec.ofNat 15 i).setWidth 8 = BitVec.ofNat 8 i := by
    intro i
    apply BitVec.eq_of_toNat_eq
    simp
  simp only [classTile, List.map_append, List.map_cons, List.map_nil, e, List.map_replicate]
  rfl

theorem mirror_class_corner (k : Nat) (h v : Bool) (hne : (h, v) ≠ (false, false)) :
    (mirror h v (classTile 8 k))[0]? = some 0 := by
  cases h <;> cases v <;> first | exact absurd rfl hne | rfl

theorem isMirror_class (j k : Nat) (hj : j < 65536) (hk : k < 65536) (hjk : j ≠ k) :
    isMirror (classTile 8 j) (classTile 8 k) = false := by
  have hid : mirror false false (classTile 8 j) = classTile 8 j := rfl
  have h1 : ∀ h v, (h, v) ≠ (false, false) → mirror h v (classTile 8 j) ≠ classTile 8 k := by
    intro h v hne e
    have h0 := mirror_class_corner j h v hne
    rw [e] at h0
    exact absurd h0 (by simp [classTile])
  have h2 : classTile 8 j ≠ classTile 8 k := by
    intro e
    simp only [classTile, List.cons_append, List.cons.injEq, List.nil_append, true_and] at e
    obtain ⟨ha, hb, -⟩ := e
    have ha' := congrArg BitVec.toNat ha
    have hb' := congrArg BitVec.toNat hb
    simp only [BitVec.toNat_ofNat] at ha' hb'
    omega
  simp [isMirror, mirrorOrder, hid, h2, h1]

/-- Tiles that are no mirrors of each other are all kept. -/
theorem representatives_of_pairwise (reps cs : List CTile)
    (h : (reps ++ cs).Pairwise (fun a b => isMirror a b = false)) : representatives reps cs = reps ++ cs := by
  induction cs generalizing reps with
  | nil => simp [representatives]
  | cons c cs ih =>
    have hc : reps.any (fun r => isMirror r c) = false := by
      rw [List.pairwise_append] at h
      rw [List.any_eq_false]
      intro r hr
      simpa using h.2.2 r hr c (by simp)
    unfold representatives
    rw [hc]
    simpa using ih (reps ++ [c]) (by simpa using h)

theorem classTiles_indices (n : Nat) (hn : n ≤ 65536) :
    (classTiles n).filterMap (tileIndices [pal256]) = (List.range n).map (classTile 8) := by
  unfold classTiles
  rw [List.filterMap_map]
  refine filterMap_eq_map_of_some _ _ _ (fun k hk => ?_)
  exact tileIndices_class k (by have := List.mem_range.mp hk; omega)

theorem classTiles_representatives (n : Nat) (hn : n ≤ 65536) :
    (representatives [] ((classTiles n).filterMap (tileIndices [pal256]))).length = n := by
  rw [classTiles_indices n hn, representatives_of_pairwise]
  · simp
  · simp only [List.nil_append, List.pairwise_map]
    refine List.Pairwise.imp_of_mem ?_ (List.nodup_range (n := n))
    intro a b ha hb hab
    exact isMirror_class a b (by have := List.mem_range.mp ha; omega) (by have := List.mem_range.mp hb; omega) hab

theorem classTiles_ok (n : Nat) : tilesOk (classTiles n) = true := by
  simp [tilesOk, classTiles, tile8Ok, classTile]

theorem classTiles_covered (n : Nat) (hn : n ≤ 65536) : uncovered [pal256] (classTiles n) = [] := by
  unfold uncovered
  rw [List.filter_eq_nil_iff]
  intro i hi
  have hi' : i < n := by simpa [classTiles] using hi
  have : (classTiles n).getD i [] = classTile 15 i := by simp [classTiles, hi']
  rw [this, firstCover_class i (by omega)]
  simp

/-- A tile no palette covers. -/
def foreignTile : Tile8 := List.replicate 64 0x7FFF

/-- That tile put first. -/
def uncoveredFirst (n : Nat) : List Tile8 := foreignTile :: classTiles n

theorem uncoveredFirst_indices (n : Nat) : (uncoveredFirst n).filterMap (tileIndices [pal256])
    = (classTiles n).filterMap (tileIndices [pal256]) := by
  have : tileIndices [pal256] foreignTile = none := by decide +kernel
  rw [uncoveredFirst, List.filterMap_cons_none this]

theorem uncoveredFirst_uncovered (n : Nat) : uncovered [pal256] (uncoveredFirst n) ≠ [] := by
  have h0 : (firstCover [pal256] foreignTile).isNone = true := by decide +kernel
  intro h
  unfold uncovered at h
  rw [List.filter_eq_nil_iff] at h
  have h1 := h 0 (by simp [uncoveredFirst])
  rw [show (uncoveredFirst n).getD 0 [] = foreignTile from rfl] at h1
  exact h1 h0

/-- Clause by clause: 1025 classes; 1024 classes and a tile no palette covers; 1024 classes, all covered. -/
theorem witness_ConvertKeepsOneTilePerMirrorClass :
    tableOk (srcValue State.reset.pt (.given [pal256])) = true ∧
    (tilesOk (classTiles 1025) = true ∧
      1024 < (representatives [] ((classTiles 1025).filterMap (tileIndices [pal256]))).length) ∧
    (tilesOk (uncoveredFirst 1024) = true ∧
      (representatives [] ((uncoveredFirst 1024).filterMap (tileIndices [pal256]))).length ≤ 1024 ∧
      uncovered [pal256] (uncoveredFirst 1024) ≠ []) ∧
    (tilesOk (classTiles 1024) = true ∧
      (representatives [] ((classTiles 1024).filterMap (tileIndices [pal256]))).length ≤ 1024 ∧
      uncovered [pal256] (classTiles 1024) = []) := by
  refine ⟨by decide +kernel, ⟨classTiles_ok _, ?_⟩, ⟨?_, ?_, uncoveredFirst_uncovered _⟩, classTiles_ok _, ?_, ?_⟩
  · rw [classTiles_representatives _ (by decide)]; decide
  · show (tile8Ok foreignTile && tilesOk (classTiles 1024)) = true
    rw [classTiles_ok]
    decide
  · rw [uncoveredFirst_indices, classTiles_representatives _ (by decide)]
  · rw [classTiles_representatives _ (by decide)]
  · exact classTiles_covered _ (by decide)

/-! ## Bitplane Packer -/

theorem witness_PackInterleavesBitplanes :
    tilesetOk (srcValue State.reset.ts (.given [zeroTile])) = true ∧ (1 : Nat) ≤ 1 ∧ (8 : Nat) ≤ 8 ∧
    (srcValue State.reset.ts (.given [zeroTile]))[0]? = some zeroTile ∧ (0 : Nat) < 1 ∧ (7 : Nat) < 8 := by decide

theorem witness_PackAndUnpackAreInverse :
    (1 : Nat) ≤ 1 ∧ (8 : Nat) ≤ 8 ∧ zeroTile.length = 64 ∧ (∀ i ∈ zeroTile, i.toNat < 2 ^ 1) ∧
    (List.replicate 64 255 : Bytes).length = 8 * 8 ∧ (List.replicate 8 255 : Bytes).length = 1 * 8 := by decide

theorem witness_PackIgnoresHighIndexBits : (List.replicate 64 5 : CTile).length = 64 ∧ (1 : Nat) ≤ 2 ∧ (2 : Nat) ≤ 8 := by
  decide

theorem witness_PacklinConcatenatesTiles :
    tilesetOk (srcValue State.reset.ts (.given (List.replicate 256 zeroTile))) = true ∧
    (srcValue State.reset.ts (.given (List.replicate 256 zeroTile))).length ≤ 256 ∧
    (srcValue State.reset.ts (.given (List.replicate 256 zeroTile)))[255]? = some zeroTile ∧
    tilesetOk (srcValue State.reset.ts (.given (List.replicate 257 zeroTile))) = true ∧
    256 < (srcValue State.reset.ts (.given (List.replicate 257 zeroTile))).length := by decide +kernel

/-! ## Tilemap Serializer -/

theorem witness_SerializersEmitEveryEntryInOrder :
    (srcValue State.reset.tm (.given (List.replicate 1024 (entry 300 5 true false)))).length % 1024 = 0 ∧
    (srcValue State.reset.tm (.given (List.replicate 1024 (entry 300 5 true false))))[1023]?
      = some (entry 300 5 true false) := by decide +kernel

theorem witness_SerializersFaultOnOtherLengths :
    (srcValue State.reset.tm (.given (List.replicate 1023 (entry 1 0 false false)))).length % 1024 ≠ 0 ∧
    (srcValue State.reset.tm (.given (List.replicate 1025 (entry 1 0 false false)))).length % 1024 ≠ 0 := by decide +kernel

/-! ## The whole machine -/

theorem witness_OperationsTouchOnlyTheirStores :
    exec (.palbuild (plain 16 0 red) 1) withPt0 = .next ({ withPt0 with pt := [] }.deliver (.ok (.table []))) ∧
    (nextOf (exec (.convert [dotT] (.given [pal4])) withPt0)).isSome = true := ⟨rfl, by decide +kernel⟩

theorem witness_ErrorsLeaveTheStores :
    exec (.palbuild (plain 17 1 red) 2) afterOneTile
      = .next (afterOneTile.deliver (.err .validation (.failed .imageWidth))) ∧
    exec (.convert [dots [(0, 0x1234)]] .store) afterOneTile
      = .next (afterOneTile.clearPass.deliver (.err .paletteMatch (.positions [0]))) := ⟨rfl, by rfl⟩

theorem witness_ErrorsByOperation :
    exec (.xlin8 (plain 9 8 red)) State.reset = .next (State.reset.deliver (.err .validation (.failed .size))) ∧
    (State.reset.deliver (.err .validation (.failed .size))).outbox
      = State.reset.outbox ++ [.err .validation (.failed .size)] := ⟨rfl, rfl⟩

theorem witness_OperandsOutOfRangeAreRefused : Instr.wellFormed (.palbuild pimg 9) = false := by decide

theorem witness_OperationsInRangeComplete :
    Inv afterOneTile ∧ IsOperation (.pack .store 8) ∧ Instr.wellFormed (.pack .store 8) = true ∧
    IsOperation (.tmser .store true) ∧ Instr.wellFormed (.tmser .store true) = true ∧
    IsOperation (.tprobe (plain 16 8 red) 0 4 0) ∧ Instr.wellFormed (.tprobe (plain 16 8 red) 0 4 0) = true :=
  ⟨afterOneTile_inv, rfl, rfl, rfl, rfl, rfl, plain_ok _ _ _⟩

theorem witness_EveryStepKeepsTheInvariant :
    Inv afterOneTile ∧ step afterOneTile = .next ({ afterOneTile with inbox := [] }.deliver (.ok (.color 0x20AF))) :=
  ⟨afterOneTile_inv, by rfl⟩

/-! A whole PIPE_SCREEN pass: one black screen under a black palette image. -/

theorem extractSmall_plain (w h x0 y0 : Nat) (p : RGB) (hx : x0 + 8 ≤ w) (hy : y0 + 8 ≤ h) :
    extractSmall (plain w h p) x0 y0 = List.replicate 64 (quantize p) := by
  unfold extractSmall extractBlock
  rw [filterMap_eq_map_of_some _ (fun _ => quantize p)]
  · simp [List.map_const']
  · intro c hc
    have := (mem_blockCoords 8 8 c).mp hc
    rw [surfRead_plain w h _ _ p (by omega) (by omega)]
    rfl

theorem screenOrderTiles_plain (p : RGB) :
    screenOrderTiles (plain 256 256 p) = List.replicate 1024 (List.replicate 64 (quantize p)) := by
  have h1 : blockCoords ((plain 256 256 p).W / Config.screenPx) ((plain 256 256 p).H / Config.screenPx) = [(0, 0)] := by
    simp [blockCoords]
  unfold screenOrderTiles
  rw [h1]
  simp only [List.flatMap_cons, List.flatMap_nil, List.append_nil, screenTiles]
  rw [List.map_congr_left (g := fun _ => List.replicate 64 (quantize p))]
  · simp [List.map_const']
  · intro c hc
    have := (mem_blockCoords 32 32 c).mp hc
    exact extractSmall_plain 256 256 _ _ p (by simp only [Config.screenPx, Config.tile]; omega)
      (by simp only [Config.screenPx, Config.tile]; omega)

/-- A tile LUT holds is only entered in TM, however often it comes. -/
theorem convertTiles_replicate_found (table : PaletteTable) (t : Tile8) (m : Palette) (pid : Nat) (e : LutEntry)
    (hc : choosePalette table t = some (m, pid)) (n : Nat) (s : State) (hl : mapLookup (mapTile m t) s.lut = some e) :
    convertTiles table (List.replicate n t) s = some { s with
      tm := s.tm ++ List.replicate n ⟨e.tileId, BitVec.ofNat 3 pid, e.hflip, e.vflip⟩, pos := s.pos + n } := by
  induction n generalizing s with
  | zero => simp [convertTiles]
  | succ n ih =>
    have h1 : convertTile table t s = some { emitEntry e pid s with pos := s.pos + 1 } := by
      simp [convertTile, hc, placeCandidate, hl]
    rw [List.replicate_succ, convertTiles, h1]
    refine (ih { emitEntry e pid s with pos := s.pos + 1 } hl).trans ?_
    simp [emitEntry, List.replicate_succ, Nat.add_comm, Nat.add_left_comm]

/-- PT after PALBUILD of a black 16×1 image at bpp 1. -/
def blackTable : PaletteTable := List.replicate 8 [(0, 0)]

/-- TS, TM, LUT and POS after the black screen. -/
def blackPass : State :=
  { State.reset with
    pt := blackTable, ts := [zeroTile], tm := List.replicate 1024 (entry 0 0 false false),
    lut := [(zeroTile, ⟨0, false, false⟩)], pos := 1024 }

theorem convertTiles_black (s : State) (hs : s.pt = blackTable ∧ s.maxColors = 256 ∧ s.inbox = []) :
    convertTiles blackTable (List.replicate 1024 zeroTile8) s.clearPass = some { blackPass with outbox := s.outbox } := by
  obtain ⟨pt, ts, tm, lut, inv, pos, inbox, outbox, mc⟩ := s
  obtain ⟨rfl, rfl, rfl⟩ := hs
  have h1 : convertTile blackTable zeroTile8 (State.clearPass ⟨blackTable, ts, tm, lut, inv, pos, [], outbox, 256⟩)
      = some { blackPass with outbox := outbox, tm := [entry 0 0 false false], pos := 1 } := by rfl
  rw [show (1024 : Nat) = 1023 + 1 from rfl, List.replicate_succ, convertTiles, h1]
  simp only
  rw [convertTiles_replicate_found blackTable zeroTile8 [(0, 0)] 0 ⟨0, false, false⟩ (by rfl) 1023 _ (by rfl)]
  rfl

theorem tm_black : blackPass.tm.length % 1024 = 0 := by
  unfold blackPass
  rw [List.length_replicate]

theorem tilesOk_black : tilesOk (List.replicate 1024 zeroTile8) = true := by
  decide +kernel

/-- The results of the first three operations of the pass. -/
def blackResults : List OpResult :=
  [.ok (.table blackTable), .ok (.tiles8 (List.replicate 1024 zeroTile8)),
   .ok (.converted blackPass.tm blackPass.ts)]

/-- All five results of the pass. -/
def allBlackResults : List OpResult :=
  blackResults ++ [.ok (.bytes (blackPass.ts.flatMap (fun p => packTile p 1))),
    .ok (.bytes (tmCombined blackPass.tm true))]

theorem exec_pack_store (s : State) (h : tilesetOk s.ts = true) :
    exec (.pack .store 1) s = .next (s.deliver (.ok (.bytes (s.ts.flatMap (fun p => packTile p 1))))) := by
  show execPack _ _ _ = _
  unfold execPack
  rw [srcValue_store, h]
  rfl

theorem exec_tmser_store (s : State) (h : s.tm.length % 1024 = 0) :
    exec (.tmser .store true) s = .next (s.deliver (.ok (.bytes (tmCombined s.tm true)))) := by
  show execTmser _ _ _ = _
  unfold execTmser withTilemapLength
  rw [srcValue_store, if_pos h]
  rfl

theorem exec_xscr_black (s : State) : exec (.xscr (plain 256 256 black)) s
    = .next (s.deliver (.ok (.tiles8 (List.replicate 1024 zeroTile8)))) := by
  show execXscr _ _ = _
  unfold execXscr
  rw [plain_ok, withOperands_true, if_neg (by simp), if_neg (by simp), screenOrderTiles_plain]
  have : quantize black = 0 := by decide
  rw [this]
  rfl

theorem exec_convert_black (s : State) (hs : s.pt = blackTable ∧ s.maxColors = 256 ∧ s.inbox = []) :
    exec (.convert (List.replicate 1024 zeroTile8) .store) s
      = .next ({ blackPass with outbox := s.outbox }.deliver (.ok (.converted blackPass.tm blackPass.ts))) := by
  show execConvert _ _ _ = _
  unfold execConvert
  have ht : tableOk blackTable = true := by decide
  rw [tilesOk_black, srcValue_store, hs.1, ht, Bool.and_self, withOperands_true, convertTiles_black s hs]
  rfl

theorem andThen_ok (v : Value) (s : State) (k : Value → State → Host.Outcome State Fault Refusal) :
    andThen (.next (s.deliver (.ok v))) k = k v (s.deliver (.ok v)) := by
  simp [andThen]

theorem tileset_black : tilesetOk blackPass.ts = true := by
  decide +kernel

theorem deliver_black (o : List OpResult) (r : OpResult) :
    ({ blackPass with outbox := o } : State).deliver r = { blackPass with outbox := o ++ [r] } := rfl

theorem pack_black (o : List OpResult) : exec (.pack .store 1) { blackPass with outbox := o }
    = .next (({ blackPass with outbox := o } : State).deliver
        (.ok (.bytes (blackPass.ts.flatMap (fun p => packTile p 1))))) :=
  exec_pack_store { blackPass with outbox := o } tileset_black

theorem tmser_black (o : List OpResult) : exec (.tmser .store true) { blackPass with outbox := o }
    = .next (({ blackPass with outbox := o } : State).deliver (.ok (.bytes (tmCombined blackPass.tm true)))) :=
  exec_tmser_store { blackPass with outbox := o } tm_black

theorem blackPass_pipe :
    pipeScreen (plain 16 1 black) (plain 256 256 black) 1 true State.reset
      = .next { blackPass with outbox := allBlackResults } := by
  have h1 : exec (.palbuild (plain 16 1 black) 1) State.reset
      = .next ({ State.reset with pt := blackTable }.deliver (.ok (.table blackTable))) := by rfl
  unfold pipeScreen
  rw [h1, andThen_ok, exec_xscr_black, andThen_ok]
  unfold finishPass
  simp only
  rw [exec_convert_black _ ⟨rfl, rfl, rfl⟩, andThen_ok, deliver_black, pack_black, andThen_ok, deliver_black,
    tmser_black, deliver_black]
  rfl

theorem witness_TheBytesDrawTheImage :
    pipeScreen (plain 16 1 black) (plain 256 256 black) 1 true State.reset
      = .next { blackPass with outbox := allBlackResults } ∧
    allBlackResults = State.reset.outbox ++ [.ok (.table blackTable), .ok (.tiles8 (List.replicate 1024 zeroTile8)),
      .ok (.converted blackPass.tm blackPass.ts), .ok (.bytes (blackPass.ts.flatMap (fun p => packTile p 1))),
      .ok (.bytes (tmCombined blackPass.tm true))] ∧
    0 < (plain 256 256 black).W / 256 ∧ 0 < (plain 256 256 black).H / 256 ∧ (31 : Nat) < 32 ∧ (7 : Nat) < 8 :=
  ⟨blackPass_pipe, rfl, by decide, by decide, by decide, by decide⟩

end Sys2Proof.Tests
end

section
/-! PROOFS. What an instruction may change. -/

namespace Sys2Proof.Machine

open Sys2Proof

/-! ## Reset (R29, R151) -/

/-- Settles O48. -/
theorem resetIsEmpty : Obligations.ResetIsEmpty := by
  unfold Obligations.ResetIsEmpty
  exact ⟨reset_pt, reset_ts, reset_tm, reset_lut, reset_inv, reset_pos, reset_inbox, reset_outbox⟩

/-- An empty pass has the pass invariant: each clause speaks of the elements of an empty store. -/
theorem passInv_of_empty {s : State} (hts : s.ts = []) (htm : s.tm = []) (hlut : s.lut = []) : PassInv s where
  few := by simp [hts]
  sizes := by simp [hts]
  canonical := by rw [hlut]; rfl
  sound := by simp [hlut]
  complete := by simp [hts]
  minimal := by simp [hts]
  entries := by simp [htm]

theorem passInv_clearPass (s : State) : PassInv s.clearPass := passInv_of_empty rfl rfl rfl

/-- Settles O49. -/
theorem resetHasTheInvariant : Obligations.ResetHasTheInvariant where
  table := { few := by simp, canonical := by simp, injective := by simp, keys := by simp }
  pass := passInv_of_empty rfl rfl rfl
  noInvalid := reset_inv
  position := rfl

/-! ## What an operation delivers

An operation other than PALBUILD and CONVERT has one way to reach a next state: it delivers a result. -/

/-- Where the outcome is a next state, it is `s` with one result delivered. -/
def OnlyDelivers (s : State) (o : Host.Outcome State Fault Refusal) : Prop :=
  ∀ t, o = .next t → ∃ r, t = s.deliver r

theorem onlyDelivers_succeed (v : Value) (s : State) : OnlyDelivers s (succeed v s) :=
  fun t h => ⟨_, (succeed_next v s t).mp h⟩

theorem onlyDelivers_raise (k : ErrKind) (info : ErrInfo) (s : State) : OnlyDelivers s (raise k info s) :=
  fun t h => ⟨_, (raise_next k info s t).mp h⟩

theorem onlyDelivers_refused (r : Refusal) (s : State) : OnlyDelivers s (.refused r) :=
  fun _ h => nomatch h

section
variable {s : State} {o o' : Host.Outcome State Fault Refusal}

theorem onlyDelivers_ite {c : Prop} [Decidable c] (h : OnlyDelivers s o) (h' : OnlyDelivers s o') :
    OnlyDelivers s (if c then o else o') := by
  split
  · exact h
  · exact h'

theorem onlyDelivers_withOperands (mn : String) (b : Bool) (h : OnlyDelivers s o) :
    OnlyDelivers s (withOperands mn b o) :=
  fun t ht => h t ((withOperands_next mn b o t).mp ht).2

theorem onlyDelivers_withBlock (mn : String) (S : Surface) (x0 y0 n : Nat) (h : OnlyDelivers s o) :
    OnlyDelivers s (withBlock mn S x0 y0 n s o) := fun t ht => by
  obtain ⟨-, -, -, hrun⟩ | ⟨-, herr⟩ := withBlock_next mn S x0 y0 n s t o ht
  · exact h t hrun
  · exact ⟨_, herr⟩

theorem onlyDelivers_withTilemapLength (tm : List TmEntry) (h : OnlyDelivers s o) :
    OnlyDelivers s (withTilemapLength tm o) :=
  fun t ht => h t ((withTilemapLength_next tm o t).mp ht).2

end

/-- Every instruction but the two that write a store only delivers its result (R28). -/
theorem exec_onlyDelivers (i : Instr) (s : State) (hp : ∀ P bpp, i ≠ .palbuild P bpp)
    (hc : ∀ tiles src, i ≠ .convert tiles src) : OnlyDelivers s (exec i s) := by
  cases i with
  | quant r g b => exact onlyDelivers_succeed _ s
  | xlin8 S =>
    exact onlyDelivers_withOperands _ _ (onlyDelivers_ite (onlyDelivers_raise _ _ s) (onlyDelivers_succeed _ s))
  | xlin16 S =>
    exact onlyDelivers_withOperands _ _ (onlyDelivers_ite (onlyDelivers_raise _ _ s) (onlyDelivers_succeed _ s))
  | xscr S =>
    exact onlyDelivers_withOperands _ _ (onlyDelivers_ite (onlyDelivers_raise _ _ s)
      (onlyDelivers_ite (onlyDelivers_raise _ _ s) (onlyDelivers_succeed _ s)))
  | tprobe S t x0 y0 =>
    exact onlyDelivers_withOperands _ _ (onlyDelivers_withBlock _ S x0 y0 _ (onlyDelivers_succeed _ s))
  | xlarge S x0 y0 =>
    exact onlyDelivers_withOperands _ _ (onlyDelivers_withBlock _ S x0 y0 _ (onlyDelivers_succeed _ s))
  | split16 t => exact onlyDelivers_withOperands _ _ (onlyDelivers_succeed _ s)
  | hflip16 t => exact onlyDelivers_withOperands _ _ (onlyDelivers_succeed _ s)
  | vflip16 t => exact onlyDelivers_withOperands _ _ (onlyDelivers_succeed _ s)
  | palbuild P bpp => exact absurd rfl (hp P bpp)
  | palraw L => exact onlyDelivers_ite (onlyDelivers_raise _ _ s) (onlyDelivers_succeed _ s)
  | convert tiles src => exact absurd rfl (hc tiles src)
  | pack ts bpp => exact onlyDelivers_withOperands _ _ (onlyDelivers_succeed _ s)
  | packlin ts =>
    exact onlyDelivers_withOperands _ _ (onlyDelivers_ite (onlyDelivers_raise _ _ s) (onlyDelivers_succeed _ s))
  | tmser tm pri => exact onlyDelivers_withTilemapLength _ (onlyDelivers_succeed _ s)
  | tmsplit tm pri => exact onlyDelivers_withTilemapLength _ (onlyDelivers_succeed _ s)
  | tmsplitc tm pri => exact onlyDelivers_withTilemapLength _ (onlyDelivers_succeed _ s)
  | hwcolor | colorword | tmword | tmbyte0 | tmbyte1 | planebyte => exact onlyDelivers_refused _ s

/-- PALBUILD (R79): an error is delivered and nothing else changes; or the image is within the limits, and PT
is the table built of it. -/
theorem execPalbuild_next {P : Surface} {bpp : Nat} {s t : State} (h : execPalbuild P bpp s = .next t) :
    (∃ k info, t = s.deliver (.err k info)) ∨
    (1 ≤ bpp ∧ bpp ≤ 8 ∧ P.W * P.H ≤ pixelLimit bpp ∧
      t = ({ s with pt := groupPalettes (scanColors P) (2 ^ bpp) } : State).deliver
        (.ok (.table (groupPalettes (scanColors P) (2 ^ bpp))))) := by
  obtain ⟨hok, hrun⟩ := (withOperands_next _ _ _ t).mp h
  have hbpp : P.ok = true ∧ 1 ≤ bpp ∧ bpp ≤ 8 := by simpa [bppOk] using hok
  obtain ⟨-, hlo, hhi⟩ := hbpp
  split at hrun
  · exact .inl ⟨_, _, (raise_next _ _ s t).mp hrun⟩
  · split at hrun
    next => exact .inl ⟨_, _, (raise_next _ _ s t).mp hrun⟩
    next hlimit => exact .inr ⟨hlo, hhi, Nat.not_lt.mp hlimit, (succeed_next _ _ t).mp hrun⟩

/-- CONVERT (R98, R138): an error is delivered on the cleared stores; or the loop came to its end with every
tile covered, and its stores stay. -/
theorem execConvert_next {tiles : List Tile8} {src : Src PaletteTable} {s t : State}
    (h : execConvert tiles src s = .next t) :
    tilesOk tiles = true ∧ tableOk (srcValue s.pt src) = true ∧
    ((∃ k info, t = s.clearPass.deliver (.err k info)) ∨
     (∃ s', convertTiles (srcValue s.pt src) tiles s.clearPass = some s' ∧ s'.inv = [] ∧
       t = s'.deliver (.ok (.converted s'.tm s'.ts)))) := by
  obtain ⟨hok, hrun⟩ := (withOperands_next _ _ _ t).mp h
  obtain ⟨htiles, htable⟩ := Bool.and_eq_true_iff.mp hok
  refine ⟨htiles, htable, ?_⟩
  cases hloop : convertTiles (srcValue s.pt src) tiles s.clearPass with
  | none =>
    rw [hloop] at hrun
    exact .inl ⟨_, _, (raise_next _ _ _ t).mp hrun⟩
  | some s' =>
    rw [hloop] at hrun
    by_cases hinv : s'.inv = []
    · exact .inr ⟨s', rfl, hinv, (succeed_next _ _ t).mp ((if_pos hinv).symm.trans hrun)⟩
    · exact .inl ⟨_, _, (raise_next _ _ _ t).mp ((if_neg hinv).symm.trans hrun)⟩

/-! ## One pass of CONVERT's loop -/

/-- A new tile enters the stores (R102, R103): TS gets it as its last tile, LUT its mirrors. -/
def State.addTile (c : CTile) (s : State) : State :=
  { s with ts := s.ts ++ [c], lut := registerMirrors c (BitVec.ofNat 10 s.ts.length) s.lut }

@[simp] theorem addTile_pt (c : CTile) (s : State) : (s.addTile c).pt = s.pt := rfl
@[simp] theorem addTile_ts (c : CTile) (s : State) : (s.addTile c).ts = s.ts ++ [c] := rfl
@[simp] theorem addTile_tm (c : CTile) (s : State) : (s.addTile c).tm = s.tm := rfl
@[simp] theorem addTile_lut (c : CTile) (s : State) :
    (s.addTile c).lut = registerMirrors c (BitVec.ofNat 10 s.ts.length) s.lut := rfl
@[simp] theorem addTile_inv (c : CTile) (s : State) : (s.addTile c).inv = s.inv := rfl
@[simp] theorem addTile_pos (c : CTile) (s : State) : (s.addTile c).pos = s.pos := rfl
@[simp] theorem addTile_inbox (c : CTile) (s : State) : (s.addTile c).inbox = s.inbox := rfl
@[simp] theorem addTile_outbox (c : CTile) (s : State) : (s.addTile c).outbox = s.outbox := rfl
@[simp] theorem addTile_maxColors (c : CTile) (s : State) : (s.addTile c).maxColors = s.maxColors := rfl

/-- The three ways a pass ends (R98 to R105). -/
inductive TilePass (table : PaletteTable) (u : Tile8) (s : State) : State → Prop where
  /-- No palette covers the tile: its position is recorded. -/
  | uncovered (hchoose : choosePalette table u = none) :
      TilePass table u s { s with inv := s.inv ++ [s.pos], pos := s.pos + 1 }
  /-- The candidate is a key of LUT: only its entry is emitted. -/
  | found {m : Palette} {pid : Nat} {e : LutEntry} (hchoose : choosePalette table u = some (m, pid))
      (hlookup : mapLookup (mapTile m u) s.lut = some e) :
      TilePass table u s { emitEntry e pid s with pos := s.pos + 1 }
  /-- The candidate is new and there is room: it enters the stores and its entry is unflipped. -/
  | added {m : Palette} {pid : Nat} (hchoose : choosePalette table u = some (m, pid))
      (hlookup : mapLookup (mapTile m u) s.lut = none) (hroom : s.ts.length ≠ 1024) :
      TilePass table u s { emitEntry ⟨BitVec.ofNat 10 s.ts.length, false, false⟩ pid
        (s.addTile (mapTile m u)) with pos := s.pos + 1 }

theorem convertTile_tilePass {table : PaletteTable} {u : Tile8} {s t : State}
    (h : convertTile table u s = some t) : TilePass table u s t := by
  obtain ⟨hchoose, rfl⟩ | ⟨m, pid, s1, hchoose, hplace, rfl⟩ := convertTile_some table u s t h
  · exact .uncovered hchoose
  · obtain ⟨e, hlookup, rfl⟩ | ⟨hlookup, hroom, rfl⟩ := placeCandidate_some _ pid s s1 hplace
    · exact .found hchoose hlookup
    · exact .added hchoose hlookup hroom

/-- `t` differs from `s` in the stores of CONVERT alone. -/
structure SameOutsidePass (s t : State) : Prop where
  pt : t.pt = s.pt
  inbox : t.inbox = s.inbox
  outbox : t.outbox = s.outbox
  maxColors : t.maxColors = s.maxColors

theorem TilePass.sameOutsidePass {table : PaletteTable} {u : Tile8} {s t : State} (h : TilePass table u s t) :
    SameOutsidePass s t := by
  cases h <;> exact ⟨rfl, rfl, rfl, rfl⟩

theorem SameOutsidePass.trans {s t u : State} (h : SameOutsidePass s t) (h' : SameOutsidePass t u) :
    SameOutsidePass s u :=
  ⟨h'.pt.trans h.pt, h'.inbox.trans h.inbox, h'.outbox.trans h.outbox, h'.maxColors.trans h.maxColors⟩

theorem convertTiles_sameOutsidePass {table : PaletteTable} {tiles : List Tile8} {s t : State}
    (h : convertTiles table tiles s = some t) : SameOutsidePass s t :=
  convertTiles_induct (SameOutsidePass s) table tiles
    (fun _ _ _ _ hs hpass => hs.trans (convertTile_tilePass hpass).sameOutsidePass) s t ⟨rfl, rfl, rfl, rfl⟩ h

/-- CONVERT delivers one result on a state that differs from `s` in its own stores alone (R28, R138). -/
theorem execConvert_sameOutsidePass {tiles : List Tile8} {src : Src PaletteTable} {s t : State}
    (h : execConvert tiles src s = .next t) : ∃ r s', SameOutsidePass s s' ∧ t = s'.deliver r := by
  obtain ⟨-, -, ⟨k, info, rfl⟩ | ⟨s', hloop, -, rfl⟩⟩ := execConvert_next h
  · exact ⟨_, s.clearPass, ⟨rfl, rfl, rfl, rfl⟩, rfl⟩
  · obtain ⟨hpt, hinbox, houtbox, hmax⟩ := convertTiles_sameOutsidePass hloop
    exact ⟨_, s', ⟨hpt, hinbox, houtbox, hmax⟩, rfl⟩

/-- PALBUILD delivers one result on a state that differs from `s` in PT alone (R28, R138). -/
theorem execPalbuild_onlyPt {P : Surface} {bpp : Nat} {s t : State} (h : execPalbuild P bpp s = .next t) :
    ∃ r pt, t = ({ s with pt := pt } : State).deliver r := by
  obtain ⟨k, info, rfl⟩ | ⟨-, -, -, rfl⟩ := execPalbuild_next h
  · exact ⟨_, s.pt, rfl⟩
  · exact ⟨_, _, rfl⟩

/-- Settles O42: PALBUILD and CONVERT by their own frames, every other instruction because it only delivers. -/
theorem operationsTouchOnlyTheirStores : Obligations.OperationsTouchOnlyTheirStores := by
  unfold Obligations.OperationsTouchOnlyTheirStores
  intro i s t h
  by_cases hp : ∃ P bpp, i = .palbuild P bpp
  · obtain ⟨P, bpp, rfl⟩ := hp
    obtain ⟨r, pt, rfl⟩ := execPalbuild_onlyPt h
    exact ⟨⟨r, rfl⟩, rfl, rfl, fun hne => absurd rfl (hne P bpp), fun _ => ⟨rfl, rfl, rfl, rfl, rfl⟩⟩
  by_cases hc : ∃ tiles src, i = .convert tiles src
  · obtain ⟨tiles, src, rfl⟩ := hc
    obtain ⟨r, s', hsame, rfl⟩ := execConvert_sameOutsidePass h
    exact ⟨⟨r, by simp [hsame.outbox]⟩, hsame.inbox, hsame.maxColors, fun _ => hsame.pt,
      fun hne => absurd rfl (hne tiles src)⟩
  · push Not at hp hc
    obtain ⟨r, rfl⟩ := exec_onlyDelivers i s hp hc t h
    exact ⟨⟨r, rfl⟩, rfl, rfl, fun _ => rfl, fun _ => ⟨rfl, rfl, rfl, rfl, rfl⟩⟩

end Sys2Proof.Machine
end

section
/-! PROOFS. Mirrors, the lookup map and the loop of CONVERT. -/

namespace Sys2Proof.Machine

open Sys2Proof

/-! ## Mirrors, position by position (R74, R75, R94, R96, R97) -/

section
variable {α : Type}

theorem rowMajor_lt {n x y : Nat} (hx : x < n) (hy : y < n) : n * y + x < n * n :=
  calc n * y + x < n * (y + 1) := by rw [Nat.mul_succ]; omega
    _ ≤ n * n := Nat.mul_le_mul_left n hy

/-- An index permutation of a square block, read at column `x` of row `y`. -/
theorem pick_block_getElem? (n : Nat) (t : List α) (f : Nat × Nat → Nat)
    (hf : ∀ c ∈ blockCoords n n, f c < t.length) {x y : Nat} (hx : x < n) (hy : y < n) :
    (pick t ((blockCoords n n).map f))[n * y + x]? = t[f (x, y)]? := by
  rw [pick_getElem? t _ (List.forall_mem_map.mpr hf), List.getElem?_map, blockCoords_getElem? n n x y hx hy]
  rfl

theorem pick_block_length (n : Nat) (t : List α) (f : Nat × Nat → Nat)
    (hf : ∀ c ∈ blockCoords n n, f c < t.length) : (pick t ((blockCoords n n).map f)).length = n * n := by
  rw [pick_length t _ (List.forall_mem_map.mpr hf), List.length_map, blockCoords_length]

section
variable {n : Nat} {t : List α} (ht : t.length = n * n)
include ht

theorem hflip_index_lt : ∀ c ∈ blockCoords n n, n * c.2 + (n - 1 - c.1) < t.length := by
  intro c hc
  obtain ⟨hx, hy⟩ := (mem_blockCoords n n c).mp hc
  exact ht ▸ rowMajor_lt (by omega) hy

theorem vflip_index_lt : ∀ c ∈ blockCoords n n, n * (n - 1 - c.2) + c.1 < t.length := by
  intro c hc
  obtain ⟨hx, hy⟩ := (mem_blockCoords n n c).mp hc
  exact ht ▸ rowMajor_lt hx (by omega)

theorem hflipBlock_length : (hflipBlock n t).length = n * n := pick_block_length n t _ (hflip_index_lt ht)

theorem vflipBlock_length : (vflipBlock n t).length = n * n := pick_block_length n t _ (vflip_index_lt ht)

theorem hflipBlock_getElem? {x y : Nat} (hx : x < n) (hy : y < n) :
    (hflipBlock n t)[n * y + x]? = t[n * y + (n - 1 - x)]? :=
  pick_block_getElem? n t _ (hflip_index_lt ht) hx hy

theorem vflipBlock_getElem? {x y : Nat} (hx : x < n) (hy : y < n) :
    (vflipBlock n t)[n * y + x]? = t[n * (n - 1 - y) + x]? :=
  pick_block_getElem? n t _ (vflip_index_lt ht) hx hy

end

section
variable {t : List α} (ht : t.length = 64)
include ht

theorem hflip8_length : (hflip8 t).length = 64 := hflipBlock_length (n := 8) ht

theorem vflip8_length : (vflip8 t).length = 64 := vflipBlock_length (n := 8) ht

theorem hflip8_getElem? {x y : Nat} (hx : x < 8) (hy : y < 8) : (hflip8 t)[8 * y + x]? = t[8 * y + (7 - x)]? :=
  hflipBlock_getElem? (n := 8) ht hx hy

theorem vflip8_getElem? {x y : Nat} (hx : x < 8) (hy : y < 8) : (vflip8 t)[8 * y + x]? = t[8 * (7 - y) + x]? :=
  vflipBlock_getElem? (n := 8) ht hx hy

theorem flipTile_length (h v : Bool) : (flipTile t h v).length = 64 := by
  cases h <;> cases v
  · exact ht
  · exact vflip8_length ht
  · exact hflip8_length ht
  · exact vflip8_length (hflip8_length ht)

theorem flipTile_getElem? (h v : Bool) {x y : Nat} (hx : x < 8) (hy : y < 8) :
    (flipTile t h v)[8 * y + x]? = t[8 * (if v then 7 - y else y) + (if h then 7 - x else x)]? := by
  cases h <;> cases v
  · rfl
  · exact vflip8_getElem? ht hx hy
  · exact hflip8_getElem? ht hx hy
  · exact (vflip8_getElem? (hflip8_length ht) hx hy).trans (hflip8_getElem? ht hx (by omega))

end
end

theorem mirror_length (h v : Bool) (c : CTile) : (mirror h v c).length = 64 := by
  simp [mirror]

theorem mirror_getElem? {t : CTile} (ht : t.length = 64) (h v : Bool) {x y : Nat} (hx : x < 8) (hy : y < 8) :
    (mirror h v t)[8 * y + x]? = t[8 * (if v then 7 - y else y) + (if h then 7 - x else x)]? := by
  have hi : 8 * y + x < 64 := rowMajor_lt hx hy
  have hrow : (8 * y + x) / 8 = y := by omega
  have hcol : (8 * y + x) % 8 = x := by omega
  have hj : 8 * (if v then 7 - y else y) + (if h then 7 - x else x) < t.length := by
    rw [ht]
    exact rowMajor_lt (n := 8) (by split <;> omega) (by split <;> omega)
  rw [mirror, List.getElem?_map, List.getElem?_range hi, List.getElem?_eq_getElem hj]
  simp only [Option.map_some, hrow, hcol, List.getD_eq_getElem?_getD, List.getElem?_eq_getElem hj, Option.getD_some]

/-- Two tiles that agree at every column of every row are one. -/
theorem tile_ext {α : Type} {a b : List α} (ha : a.length = 64) (hb : b.length = 64)
    (h : ∀ x y, x < 8 → y < 8 → a[8 * y + x]? = b[8 * y + x]?) : a = b := by
  refine List.ext_getElem? fun i => ?_
  by_cases hi : i < 64
  · have := h (i % 8) (i / 8) (by omega) (by omega)
    rwa [Nat.div_add_mod] at this
  · rw [List.getElem?_eq_none (by omega), List.getElem?_eq_none (by omega)]

/-- `flip` (R94) is the mirror image, position by position. -/
theorem flipTile_eq_mirror {c : CTile} (hc : c.length = 64) (h v : Bool) : flipTile c h v = mirror h v c :=
  tile_ext (flipTile_length hc h v) (mirror_length h v c) fun _ _ hx hy =>
    (flipTile_getElem? hc h v hx hy).trans (mirror_getElem? hc h v hx hy).symm

/-! ## Registration (R98, R103) -/

theorem mapLookup_register_of_some {j k : CTile} {e : LutEntry} {lut : PMap CTile LutEntry} (tid : BitVec 10)
    (h v : Bool) (he : mapLookup j lut = some e) : mapLookup j (register k tid h v lut) = some e := by
  rw [register, mapLookup_insertNew]
  by_cases hj : j = k
  · subst hj
    simp [he]
  · rw [if_neg hj, he]

/-- What LUT answers after a registration it answered before, or it is the entry registered. -/
theorem mapLookup_register {j k : CTile} {tid : BitVec 10} {h v : Bool} {e : LutEntry}
    {lut : PMap CTile LutEntry} (he : mapLookup j (register k tid h v lut) = some e) :
    mapLookup j lut = some e ∨ (j = k ∧ e = ⟨tid, h, v⟩) := by
  rw [register, mapLookup_insertNew] at he
  by_cases hj : j = k
  · subst hj
    rw [if_pos rfl] at he
    cases hold : mapLookup j lut with
    | some e' => exact .inl (by simpa [hold] using he)
    | none => exact .inr ⟨rfl, by simpa [hold] using he.symm⟩
  · exact .inl (by rwa [if_neg hj] at he)

theorem inDom_register (j k : CTile) (tid : BitVec 10) (h v : Bool) (lut : PMap CTile LutEntry) :
    inDom j (register k tid h v lut) = (decide (j = k) || inDom j lut) :=
  inDom_insertNew _ _ _ _ _

section
variable {c k : CTile} {tid : BitVec 10} {lut : PMap CTile LutEntry}

/-- The keys of the four registrations are the four mirrors. -/
theorem registerMirrors_eq (c : CTile) (tid : BitVec 10) (lut : PMap CTile LutEntry) :
    registerMirrors c tid lut
      = register (flipTile c true true) tid true true
          (register (flipTile c false true) tid false true
            (register (flipTile c true false) tid true false
              (register (flipTile c false false) tid false false lut))) := rfl

/-- What LUT answers after the four registrations it answered before, or it is a mirror of the new tile with
flags that reproduce it (R107 a). -/
theorem mapLookup_registerMirrors {e : LutEntry} (he : mapLookup k (registerMirrors c tid lut) = some e) :
    mapLookup k lut = some e ∨ (e.tileId = tid ∧ k = flipTile c e.hflip e.vflip) := by
  rw [registerMirrors_eq] at he
  obtain he | ⟨rfl, rfl⟩ := mapLookup_register he
  · obtain he | ⟨rfl, rfl⟩ := mapLookup_register he
    · obtain he | ⟨rfl, rfl⟩ := mapLookup_register he
      · obtain he | ⟨rfl, rfl⟩ := mapLookup_register he
        · exact .inl he
        · exact .inr ⟨rfl, rfl⟩
      · exact .inr ⟨rfl, rfl⟩
    · exact .inr ⟨rfl, rfl⟩
  · exact .inr ⟨rfl, rfl⟩

theorem inDom_registerMirrors_of_inDom (hk : inDom k lut = true) :
    inDom k (registerMirrors c tid lut) = true := by
  simp [registerMirrors_eq, inDom_register, hk]

theorem inDom_flipTile_registerMirrors (h v : Bool) :
    inDom (flipTile c h v) (registerMirrors c tid lut) = true := by
  cases h <;> cases v <;> simp [registerMirrors_eq, inDom_register]

end

/-! ## The pass invariant (R21, R26, R106, R107) -/

/-- The pass invariant speaks of TS, LUT and TM alone. -/
theorem PassInv.of_stores_eq {s t : State} (h : PassInv s) (hts : t.ts = s.ts) (hlut : t.lut = s.lut)
    (htm : t.tm = s.tm) : PassInv t where
  few := hts ▸ h.few
  sizes := hts ▸ h.sizes
  canonical := hlut ▸ h.canonical
  sound := hts ▸ hlut ▸ h.sound
  complete := hts ▸ hlut ▸ h.complete
  minimal := hts ▸ h.minimal
  entries := hts ▸ htm ▸ h.entries

/-- A tile id LUT names is one of TS. -/
theorem PassInv.tileId_lt {s : State} (h : PassInv s) {k : CTile} {e : LutEntry}
    (he : mapLookup k s.lut = some e) : e.tileId.toNat < s.ts.length := by
  obtain ⟨c, hc, -⟩ := h.sound k e he
  exact (List.getElem?_eq_some_iff.mp hc).1

/-- A candidate LUT does not hold is a mirror of no tile of TS (R107 c). -/
theorem PassInv.flipTile_ne_of_new {s : State} (h : PassInv s) {k c : CTile} (hnew : mapLookup k s.lut = none)
    (hc : c ∈ s.ts) (hf vf : Bool) : flipTile c hf vf ≠ k := by
  rintro rfl
  have hin := h.complete c hc hf vf
  rw [(inDom_false_iff _ _).mpr hnew] at hin
  cases hin

theorem PassInv.emitEntry {s : State} (h : PassInv s) {e : LutEntry} (he : e.tileId.toNat < s.ts.length)
    (pid : Nat) : PassInv (emitEntry e pid s) where
  few := h.few
  sizes := h.sizes
  canonical := h.canonical
  sound := h.sound
  complete := h.complete
  minimal := h.minimal
  entries := by
    simp only [emitEntry_tm, emitEntry_ts, List.forall_mem_append, List.forall_mem_singleton]
    exact ⟨h.entries, he⟩

/-- While there is room, the id of the next tile is its position in TS. -/
theorem toNat_nextTileId {n : Nat} (hfew : n ≤ 1024) (hroom : n ≠ 1024) : (BitVec.ofNat 10 n).toNat = n := by
  rw [BitVec.toNat_ofNat]
  omega

theorem PassInv.addTile {s : State} (h : PassInv s) {c : CTile} (hsize : c.length = 64)
    (hnew : mapLookup c s.lut = none) (hroom : s.ts.length ≠ 1024) : PassInv (s.addTile c) where
  few := by
    have := h.few
    rw [addTile_ts, List.length_append, List.length_singleton]
    omega
  sizes := by
    simp only [addTile_ts, List.forall_mem_append, List.forall_mem_singleton]
    exact ⟨h.sizes, hsize⟩
  canonical := rising_registerMirrors _ _ _ h.canonical
  sound := by
    intro k e he
    obtain hold | ⟨hid, hk⟩ := mapLookup_registerMirrors he
    · obtain ⟨d, hd, hk⟩ := h.sound k e hold
      exact ⟨d, by rw [addTile_ts, List.getElem?_append_left (h.tileId_lt hold), hd], hk⟩
    · exact ⟨c, by rw [hid, toNat_nextTileId h.few hroom, addTile_ts, List.getElem?_concat_length], hk⟩
  complete := by
    simp only [addTile_ts, List.forall_mem_append, List.forall_mem_singleton]
    exact ⟨fun d hd hf vf => inDom_registerMirrors_of_inDom (h.complete d hd hf vf),
      inDom_flipTile_registerMirrors⟩
  minimal := by
    simp only [addTile_ts, List.pairwise_append, List.pairwise_singleton, List.forall_mem_singleton, true_and]
    exact ⟨h.minimal, fun d hd => h.flipTile_ne_of_new hnew hd⟩
  entries := by
    intro e he
    have := h.entries e he
    rw [addTile_ts, List.length_append]
    omega

/-- The candidate of a covered tile has its 64 elements (R20, R100). -/
theorem candidate_length {table : PaletteTable} {u : Tile8} {m : Palette} {pid : Nat} (hu : u.length = 64)
    (hchoose : choosePalette table u = some (m, pid)) : (mapTile m u).length = 64 := by
  obtain ⟨-, hcov, -⟩ := choosePalette_some table u m pid hchoose
  exact (mapTile_length m u hcov).trans hu

theorem TilePass.passInv {table : PaletteTable} {u : Tile8} {s t : State} (h : TilePass table u s t)
    (hu : u.length = 64) (hs : PassInv s) : PassInv t := by
  cases h with
  | uncovered _ => exact hs.of_stores_eq rfl rfl rfl
  | found _ hlookup => exact (hs.emitEntry (hs.tileId_lt hlookup) _).of_stores_eq rfl rfl rfl
  | added hchoose hlookup hroom =>
    have hadded := hs.addTile (candidate_length hu hchoose) hlookup hroom
    refine (hadded.emitEntry ?_ _).of_stores_eq rfl rfl rfl
    rw [toNat_nextTileId hs.few hroom, addTile_ts, List.length_append, List.length_singleton]
    exact Nat.lt_succ_self _

theorem TilePass.pos_eq {table : PaletteTable} {u : Tile8} {s t : State} (h : TilePass table u s t) :
    t.pos = s.pos + 1 := by
  cases h <;> rfl

theorem TilePass.ts_append {table : PaletteTable} {u : Tile8} {s t : State} (h : TilePass table u s t) :
    ∃ more, t.ts = s.ts ++ more ∧ more.length ≤ 1 := by
  cases h with
  | uncovered _ => exact ⟨[], by simp⟩
  | found _ _ => exact ⟨[], by simp⟩
  | added _ _ _ => exact ⟨[_], rfl, Nat.le_refl 1⟩

/-- Settles O29, by the three ways a pass ends. -/
theorem everyTileKeepsThePassInvariant : Obligations.EveryTileKeepsThePassInvariant := by
  unfold Obligations.EveryTileKeepsThePassInvariant
  refine ⟨passInv_clearPass, fun table u s t hu _ hs h => ?_⟩
  have hpass := convertTile_tilePass h
  exact ⟨hpass.passInv hu hs, hpass.pos_eq, hpass.ts_append⟩

theorem length_of_mem_tilesOk {tiles : List Tile8} (h : tilesOk tiles = true) {u : Tile8} (hu : u ∈ tiles) :
    u.length = 64 := by
  simpa [tile8Ok] using List.all_eq_true.mp h u hu

theorem convertTiles_passInv {table : PaletteTable} {tiles : List Tile8} {s t : State}
    (htiles : tilesOk tiles = true) (hs : PassInv s) (h : convertTiles table tiles s = some t) : PassInv t :=
  convertTiles_induct PassInv table tiles
    (fun _ hu _ _ hs hpass => (convertTile_tilePass hpass).passInv (length_of_mem_tilesOk htiles hu) hs) s t hs h

/-- POS counts the tiles done: one entry for each covered one, one invalid position for each other (R25). -/
theorem convertTiles_pos {table : PaletteTable} {tiles : List Tile8} {s t : State}
    (hs : s.pos = s.tm.length + s.inv.length) (h : convertTiles table tiles s = some t) :
    t.pos = t.tm.length + t.inv.length := by
  refine convertTiles_induct (fun s => s.pos = s.tm.length + s.inv.length) table tiles ?_ s t hs h
  intro u _ s t hs hpass
  cases convertTile_tilePass hpass <;> simp [hs] <;> omega

/-! ## Entries reproduce their tiles (R26, R99, R100) -/

theorem lookup_eq_mapLookup (m : Palette) (c : HwColor) : m.lookup c = mapLookup c m := by
  induction m with
  | nil => rfl
  | cons p m ih =>
    obtain ⟨d, i⟩ := p
    by_cases hc : c = d
    · simp [hc]
    · rw [List.lookup_cons, mapLookup_cons, beq_false_of_ne hc, if_neg hc]
      exact ih

/-- The index of the palette chosen is that of the first one that covers the tile (R93, R99). -/
theorem choosePalette_index (table : PaletteTable) (u : Tile8) :
    (choosePalette table u).map (·.2) = firstCover table u := by
  have hcovers : (fun m : Palette => u.all (fun c => (m.lookup c).isSome)) = fun m => covers m u := by
    simp only [lookup_eq_mapLookup]
    rfl
  rw [firstCover, hcovers]
  cases hchoose : choosePalette table u with
  | none => exact (List.findIdx?_eq_none_iff.mpr ((choosePalette_none table u).mp hchoose)).symm
  | some p =>
    obtain ⟨m, pid⟩ := p
    obtain ⟨hm, hcov, hfirst⟩ := choosePalette_some table u m pid hchoose
    obtain ⟨hlt, rfl⟩ := List.getElem?_eq_some_iff.mp hm
    refine (List.findIdx?_eq_some_iff_getElem.mpr ⟨hlt, hcov, fun j hj => ?_⟩).symm
    simp [hfirst j _ hj (List.getElem?_eq_getElem (by omega))]

section
variable {table : PaletteTable} {u : Tile8} {m : Palette} {pid : Nat}

theorem firstCover_of_chosen (hchoose : choosePalette table u = some (m, pid)) : firstCover table u = some pid := by
  rw [← choosePalette_index, hchoose]
  rfl

theorem tileIndices_of_chosen (hchoose : choosePalette table u = some (m, pid)) :
    tileIndices table u = some (mapTile m u) := by
  obtain ⟨hm, -, -⟩ := choosePalette_some table u m pid hchoose
  rw [tileIndices, firstCover_of_chosen hchoose, Option.bind_some, hm, Option.map_some, mapTile]
  simp only [lookup_eq_mapLookup]

/-- The id of a palette of a table in range fits its three bits (R19, R22). -/
theorem toNat_paletteId (htable : tableOk table = true) (hchoose : choosePalette table u = some (m, pid)) :
    (BitVec.ofNat 3 pid).toNat = pid := by
  obtain ⟨hfew, -⟩ := Bool.and_eq_true_iff.mp htable
  have hlen : table.length ≤ 8 := of_decide_eq_true hfew
  obtain ⟨hm, -, -⟩ := choosePalette_some table u m pid hchoose
  obtain ⟨hlt, -⟩ := List.getElem?_eq_some_iff.mp hm
  rw [BitVec.toNat_ofNat]
  omega

/-- An entry with the id and the flags of a tile of TS that gives the candidate reproduces the tile. -/
theorem reproduces_of_chosen (htable : tableOk table = true) (hchoose : choosePalette table u = some (m, pid))
    {ts : List CTile} {e : LutEntry} {c : CTile} (hc : ts[e.tileId.toNat]? = some c) (hsize : c.length = 64)
    (hflip : mapTile m u = flipTile c e.hflip e.vflip) :
    Reproduces table ts ⟨e.tileId, BitVec.ofNat 3 pid, e.hflip, e.vflip⟩ u := by
  refine ⟨c, hc, ?_, ?_⟩
  · rw [toNat_paletteId htable hchoose, firstCover_of_chosen hchoose]
  · rw [tileIndices_of_chosen hchoose, hflip, flipTile_eq_mirror hsize]

end

/-- An entry still reproduces its tile when TS has grown. -/
theorem Reproduces.append {table : PaletteTable} {ts : List CTile} {e : TmEntry} {u : Tile8}
    (h : Reproduces table ts e u) (more : List CTile) : Reproduces table (ts ++ more) e u := by
  obtain ⟨c, hc, hrest⟩ := h
  exact ⟨c, by rw [List.getElem?_append_left (List.getElem?_eq_some_iff.mp hc).1, hc], hrest⟩

/-- The tiles a palette of the table covers. -/
abbrev coveredTiles (table : PaletteTable) (tiles : List Tile8) : List Tile8 :=
  tiles.filter (fun u => (firstCover table u).isSome)

/-- One pass emits no entry for an uncovered tile (D13), and for a covered one an entry that reproduces it. -/
theorem TilePass.emits {table : PaletteTable} {u : Tile8} {s t : State} (h : TilePass table u s t)
    (hu : u.length = 64) (htable : tableOk table = true) (hs : PassInv s) :
    ∃ new, t.tm = s.tm ++ new ∧ List.Forall₂ (Reproduces table t.ts) new (coveredTiles table [u]) := by
  cases h with
  | uncovered hchoose =>
    have hcover : firstCover table u = none := by rw [← choosePalette_index, hchoose]; rfl
    exact ⟨[], by simp, by simp [hcover]⟩
  | found hchoose hlookup =>
    obtain ⟨c, hc, hflip⟩ := hs.sound _ _ hlookup
    refine ⟨_, rfl, ?_⟩
    rw [coveredTiles, List.filter_singleton, firstCover_of_chosen hchoose]
    exact .cons (reproduces_of_chosen htable hchoose hc (hs.sizes c (List.mem_of_getElem? hc)) hflip) .nil
  | added hchoose hlookup hroom =>
    refine ⟨_, rfl, ?_⟩
    rw [coveredTiles, List.filter_singleton, firstCover_of_chosen hchoose]
    refine .cons (reproduces_of_chosen htable hchoose ?_ (candidate_length hu hchoose) rfl) .nil
    simp [toNat_nextTileId hs.few hroom]

/-- Along the loop the entries stay those of the covered tiles, `done` being the covered tiles before. -/
theorem convertTiles_reproduces {table : PaletteTable} (htable : tableOk table = true) {tiles : List Tile8}
    (htiles : ∀ u ∈ tiles, u.length = 64) {s t : State} {done : List Tile8} (hs : PassInv s)
    (hdone : List.Forall₂ (Reproduces table s.ts) s.tm done) (h : convertTiles table tiles s = some t) :
    List.Forall₂ (Reproduces table t.ts) t.tm (done ++ coveredTiles table tiles) := by
  induction tiles generalizing s done with
  | nil =>
    cases h
    simpa using hdone
  | cons u rest ih =>
    obtain ⟨hu, hrest⟩ := List.forall_mem_cons.mp htiles
    unfold convertTiles at h
    split at h
    next s1 hpass1 =>
      have hpass := convertTile_tilePass hpass1
      obtain ⟨more, hts, -⟩ := hpass.ts_append
      obtain ⟨new, htm, hnew⟩ := hpass.emits hu htable hs
      have hold : List.Forall₂ (Reproduces table s1.ts) s.tm done :=
        hdone.imp fun _ _ hr => hts ▸ hr.append more
      have hdone1 : List.Forall₂ (Reproduces table s1.ts) s1.tm (done ++ coveredTiles table [u]) :=
        htm ▸ List.rel_append hold hnew
      simpa [coveredTiles, List.append_assoc, ← List.filter_append] using
        ih hrest (hpass.passInv hu hs) hdone1 h
    next => cases h

/-- Settles O28: the loop from the cleared stores, with no entry before it. -/
theorem entriesReproduceTheirTiles : Obligations.EntriesReproduceTheirTiles := by
  unfold Obligations.EntriesReproduceTheirTiles
  intro tiles table s t htiles htable h
  exact convertTiles_reproduces htable (fun _ => length_of_mem_tilesOk htiles) (passInv_clearPass s) .nil h

end Sys2Proof.Machine
end

section
/-! PROOFS. The table PALBUILD builds, and the invariant of every step. -/

namespace Sys2Proof.Machine

open Sys2Proof

/-! ## Palettes built from a group of colours (R81, R84) -/

/-- Every index of the palette is one of the first `n` offsets. -/
def IndicesBelow (n : Nat) (m : Palette) : Prop := ∀ c i, mapLookup c m = some i → i.toNat < n

theorem indicesBelow_insertNew {n : Nat} {m : Palette} (hn : n < 256) (h : IndicesBelow n m) (c : HwColor) :
    IndicesBelow (n + 1) (insertNew colorLt c (BitVec.ofNat 8 n) m) := by
  intro d i hd
  rw [mapLookup_insertNew] at hd
  split at hd
  next =>
    cases hold : mapLookup c m with
    | some j =>
      have hj := h c j hold
      simp only [hold, Option.getD_some, Option.some.injEq] at hd
      exact hd ▸ Nat.lt_succ_of_lt hj
    | none =>
      simp only [hold, Option.getD_none, Option.some.injEq] at hd
      rw [← hd, BitVec.toNat_ofNat]
      omega
  next => exact Nat.lt_succ_of_lt (h d i hd)

/-- A new key with an index no other key has keeps the palette injective. -/
theorem injective_insertNew {m : Palette} (h : Injective m) {c : HwColor} {i : Index}
    (hfresh : ∀ d, mapLookup d m ≠ some i) : Injective (insertNew colorLt c i m) := by
  cases hc : inDom c m with
  | true => rwa [insertNew, if_pos hc]
  | false =>
    rw [insertNew, hc, if_neg (by simp)]
    intro a b j ha hb
    rw [mapLookup_mapInsert] at ha hb
    split at ha <;> split at hb
    next hac hbc => exact hac.trans hbc.symm
    next => exact absurd (ha ▸ hb) (hfresh b)
    next => exact absurd (hb ▸ ha) (hfresh a)
    next => exact h a b j ha hb

/-- Offsets below 256 are distinct bytes, so the palette of a group of at most 256 colours is injective. -/
theorem injective_buildPalette {cs : List HwColor} {n : Nat} {m : Palette} (hlen : n + cs.length ≤ 256)
    (hbelow : IndicesBelow n m) (hinj : Injective m) : Injective (buildPalette cs n m) := by
  induction cs generalizing n m with
  | nil => exact hinj
  | cons c cs ih =>
    rw [List.length_cons] at hlen
    refine ih (by omega) (indicesBelow_insertNew (by omega) hbelow c) (injective_insertNew hinj fun d hd => ?_)
    have := hbelow d _ hd
    rw [BitVec.toNat_ofNat] at this
    omega

section
variable {κ ν : Type} [DecidableEq κ]

theorem length_mapInsert_le (lt : κ → κ → Bool) (k : κ) (v : ν) (m : PMap κ ν) :
    (mapInsert lt k v m).length ≤ m.length + 1 := by
  induction m with
  | nil => exact Nat.le_refl 1
  | cons p m ih =>
    unfold mapInsert
    split
    · exact Nat.le_refl _
    · split
      · exact Nat.le_succ _
      · exact Nat.succ_le_succ ih

theorem length_insertNew_le (lt : κ → κ → Bool) (k : κ) (v : ν) (m : PMap κ ν) :
    (insertNew lt k v m).length ≤ m.length + 1 := by
  unfold insertNew
  split
  · exact Nat.le_succ _
  · exact length_mapInsert_le lt k v m

end

theorem length_buildPalette_le (cs : List HwColor) (n : Nat) (m : Palette) :
    (buildPalette cs n m).length ≤ m.length + cs.length := by
  induction cs generalizing n m with
  | nil => exact Nat.le_refl _
  | cons c cs ih =>
    have hinsert := length_insertNew_le colorLt c (BitVec.ofNat 8 n) m
    have hrest := ih (n + 1) (insertNew colorLt c (BitVec.ofNat 8 n) m)
    rw [List.length_cons, buildPalette]
    omega

/-! ## The table of an image within PALBUILD's limits (R82, R89) -/

/-- Group `g` of the colours, `n` to a group (R81). -/
abbrev colorGroup (cols : List HwColor) (n g : Nat) : List HwColor := (cols.drop (g * n)).take n

theorem sum_length_colorGroup_le (cols : List HwColor) (n k : Nat) :
    ((List.range k).map (fun g => (colorGroup cols n g).length)).sum ≤ (cols.take (k * n)).length := by
  induction k with
  | zero => simp
  | succ k ih =>
    rw [List.range_succ, List.map_append, List.sum_append, Nat.succ_mul]
    simp only [List.map_singleton, List.sum_singleton, List.length_take, List.length_drop] at ih ⊢
    omega

/-- The keys of all palettes together are no more than the colours. -/
theorem sum_length_groupPalettes_le (cols : List HwColor) (n : Nat) :
    ((groupPalettes cols n).map List.length).sum ≤ cols.length := by
  have hpalette (g : Nat) : (buildPalette (colorGroup cols n g) 0 []).length ≤ (colorGroup cols n g).length := by
    simpa using length_buildPalette_le (colorGroup cols n g) 0 []
  rw [groupPalettes, List.map_map]
  calc ((List.range (groupCount cols.length n)).map
        (List.length ∘ fun g => buildPalette (colorGroup cols n g) 0 [])).sum
      ≤ ((List.range (groupCount cols.length n)).map (fun g => (colorGroup cols n g).length)).sum :=
        List.sum_le_sum fun g _ => hpalette g
    _ ≤ (cols.take (groupCount cols.length n * n)).length := sum_length_colorGroup_le cols n _
    _ ≤ cols.length := List.length_take_le' _ _

theorem groupCount_le {k n : Nat} (hn : 0 < n) (hk : k ≤ n * 8) : groupCount k n ≤ 8 := by
  rw [groupCount, ← Nat.lt_succ_iff, Nat.div_lt_iff_lt_mul hn]
  omega

/-- Colours within the limits of R82 for groups of `n` make a table with the properties of R89. -/
theorem tableInv_groupPalettes {cols : List HwColor} {n : Nat} (hn : 0 < n) (hn256 : n ≤ 256)
    (hgroups : cols.length ≤ n * 8) (hcols : cols.length ≤ 256) : TableInv (groupPalettes cols n) where
  few := by
    rw [groupPalettes, List.length_map, List.length_range]
    exact groupCount_le hn hgroups
  canonical := List.forall_mem_map.mpr fun g _ => rising_buildPalette (colorGroup cols n g) 0 [] rfl
  injective := List.forall_mem_map.mpr fun g _ => by
    have hlen : 0 + (colorGroup cols n g).length ≤ 256 :=
      (Nat.zero_add _).le.trans ((List.length_take_le _ _).trans hn256)
    exact injective_buildPalette hlen (fun _ _ h => nomatch h) (fun _ _ _ h => nomatch h)
  keys := (sum_length_groupPalettes_le cols n).trans hcols

theorem length_scanColors_le (P : Surface) : (scanColors P).length ≤ P.W * P.H := by
  rw [← blockCoords_length P.W P.H]
  exact List.length_filterMap_le _ _

/-- What PALBUILD stores has the properties of R89, whatever PT was. -/
theorem execPalbuild_tableInv {P : Surface} {bpp : Nat} {s t : State} (h : execPalbuild P bpp s = .next t)
    (hs : TableInv s.pt) : TableInv t.pt := by
  obtain ⟨k, info, rfl⟩ | ⟨-, hbpp, hlimit, rfl⟩ := execPalbuild_next h
  · exact hs
  · have hlen := (length_scanColors_le P).trans hlimit
    have hpow : 2 ^ bpp ≤ 256 := Nat.pow_le_pow_right (n := 2) (by decide) hbpp
    exact tableInv_groupPalettes (Nat.two_pow_pos bpp) hpow (hlen.trans (Nat.min_le_left _ _))
      (hlen.trans (Nat.min_le_right _ _))

/-! ## The invariant of every step -/

/-- The invariant speaks of the six stores alone. -/
theorem Inv.of_stores_eq {s t : State} (h : Inv s) (hpt : t.pt = s.pt) (hts : t.ts = s.ts) (htm : t.tm = s.tm)
    (hlut : t.lut = s.lut) (hinv : t.inv = s.inv) (hpos : t.pos = s.pos) : Inv t where
  table := hpt ▸ h.table
  pass := h.pass.of_stores_eq hts hlut htm
  noInvalid := hinv ▸ h.noInvalid
  position := hpos ▸ htm ▸ h.position

theorem inv_deliver {s : State} (h : Inv s) (r : OpResult) : Inv (s.deliver r) :=
  h.of_stores_eq rfl rfl rfl rfl rfl rfl

theorem inv_clearPass {s : State} (h : TableInv s.pt) : Inv s.clearPass where
  table := h
  pass := passInv_clearPass s
  noInvalid := rfl
  position := rfl

theorem execPalbuild_inv {P : Surface} {bpp : Nat} {s t : State} (hs : Inv s)
    (h : execPalbuild P bpp s = .next t) : Inv t := by
  have htable := execPalbuild_tableInv h hs.table
  obtain ⟨r, pt, rfl⟩ := execPalbuild_onlyPt h
  exact { table := htable
          pass := hs.pass.of_stores_eq rfl rfl rfl
          noInvalid := hs.noInvalid
          position := hs.position }

/-- Whatever table CONVERT is given, it leaves its stores in order: the loop keeps the pass invariant from the
cleared stores, and an error clears them again. -/
theorem execConvert_inv {tiles : List Tile8} {src : Src PaletteTable} {s t : State} (hs : Inv s)
    (h : execConvert tiles src s = .next t) : Inv t := by
  obtain ⟨htiles, -, ⟨k, info, rfl⟩ | ⟨s', hloop, hinv, rfl⟩⟩ := execConvert_next h
  · exact inv_deliver (inv_clearPass hs.table) _
  · have hpos : s'.pos = s'.tm.length + s'.inv.length := convertTiles_pos rfl hloop
    refine inv_deliver { table := ?_, pass := ?_, noInvalid := hinv, position := ?_ } _
    · rw [(convertTiles_sameOutsidePass hloop).pt]
      exact hs.table
    · exact convertTiles_passInv htiles (passInv_clearPass s) hloop
    · rw [hpos, hinv, List.length_nil, Nat.add_zero]

theorem exec_inv {i : Instr} {s t : State} (hs : Inv s) (h : exec i s = .next t) : Inv t := by
  by_cases hp : ∃ P bpp, i = .palbuild P bpp
  · obtain ⟨P, bpp, rfl⟩ := hp
    exact execPalbuild_inv hs h
  by_cases hc : ∃ tiles src, i = .convert tiles src
  · obtain ⟨tiles, src, rfl⟩ := hc
    exact execConvert_inv hs h
  · push Not at hp hc
    obtain ⟨r, rfl⟩ := exec_onlyDelivers i s hp hc t h
    exact inv_deliver hs r

/-- A step waits, with nothing issued, or runs the instruction of the first command (R11, R43, R151). -/
theorem step_next {s t : State} (h : step s = .next t) :
    (s.inbox = [] ∧ t = s) ∨
    (∃ c rest i, s.inbox = c :: rest ∧ decode c = .ok i ∧ exec i { s with inbox := rest } = .next t) := by
  unfold step at h
  split at h
  next hnone =>
    cases h
    exact .inl ⟨(takeCommand_none s).mp hnone, rfl⟩
  next c s' hsome =>
    obtain ⟨rest, hinbox, rfl⟩ := (takeCommand_some s s' c).mp hsome
    split at h
    next i hdecode => exact .inr ⟨c, rest, i, hinbox, hdecode, h⟩
    next => cases h

/-- Settles O50: a step leaves the state or runs one instruction, and every instruction keeps the invariant. -/
theorem everyStepKeepsTheInvariant : Obligations.EveryStepKeepsTheInvariant := by
  unfold Obligations.EveryStepKeepsTheInvariant
  intro s t hs h
  obtain ⟨-, rfl⟩ | ⟨c, rest, i, -, -, hexec⟩ := step_next h
  · exact hs
  · have htaken : Inv { s with inbox := rest } := hs.of_stores_eq rfl rfl rfl rfl rfl rfl
    exact exec_inv htaken hexec

end Sys2Proof.Machine
end

section
/-! PROOFS. A step takes the host's first command and runs what it decodes to. -/

namespace Sys2Proof.Machine

open Sys2Proof

/-- Settles O1: the first command is what the step takes, so its decoding is what the step runs (R43, R48). -/
theorem stepRunsTheDecodedOperation : Obligations.StepRunsTheDecodedOperation := by
  unfold Obligations.StepRunsTheDecodedOperation
  intro s c rest i hinbox hdecode
  have htake : takeCommand s = some (c, { s with inbox := rest }) :=
    (takeCommand_some s _ c).mpr ⟨rest, hinbox, rfl⟩
  simp only [step, htake, hdecode]

end Sys2Proof.Machine
end

section
/-! PROOFS. The decoder, the encoder and the data formats (30_encoding.md). -/

namespace Sys2Proof.Machine

open Sys2Proof

/-! ## Operation codes (R47, R59) -/

theorem code_of_mem_codeTable : ∀ row ∈ codeTable, row.2.code = row.1 := by decide

theorem opcodeOf_code (o : OpCode) : opcodeOf o.code = some o := by
  cases o <;> rfl

/-- The codes name the operations one to one. -/
theorem opcodeOf_eq_some_iff {op : Byte} {o : OpCode} : opcodeOf op = some o ↔ o.code = op := by
  constructor
  · intro h
    obtain ⟨row, hfind, rfl⟩ := Option.map_eq_some_iff.mp h
    have hop : row.1 = op := by simpa using List.find?_some hfind
    exact (code_of_mem_codeTable row (List.mem_of_find?_eq_some hfind)).trans hop
  · rintro rfl
    exact opcodeOf_code o

theorem opcodeOf_eq_none {op : Byte} (h : ∀ o : OpCode, o.code ≠ op) : opcodeOf op = none :=
  Option.eq_none_iff_forall_ne_some.mpr fun o ho => h o (opcodeOf_eq_some_iff.mp ho)

/-- Settles O3. -/
theorem unknownCodesAreRefused : Obligations.UnknownCodesAreRefused := by
  unfold Obligations.UnknownCodesAreRefused
  refine ⟨opcodeOf_code, fun op operands h => ?_⟩
  simp only [decode, decodeCmd, opcodeOf_eq_none h]

/-- Settles O4: the words are literals, so the decoder computes. -/
theorem wordsOfTheTablesDecode : Obligations.WordsOfTheTablesDecode :=
  ⟨rfl, rfl, rfl, rfl, rfl, rfl, rfl⟩

/-! ## Bit fields -/

section
variable {m n : Nat} (hi : BitVec m) (lo : BitVec n) {start len : Nat}

@[simp] theorem bits_self : bits lo 0 n = lo := BitVec.extractLsb'_eq_self

/-- A field above the low part is a field of the high part. -/
theorem bits_append_high (h : n ≤ start) : bits (hi ++ lo) start len = bits hi (start - n) len :=
  BitVec.extractLsb'_append_eq_of_le h

/-- A field within the low part is a field of it. -/
theorem bits_append_low (h : start + len ≤ n) : bits (hi ++ lo) start len = bits lo start len :=
  BitVec.extractLsb'_append_eq_of_add_le h

theorem bits_setWidth (h : start + len ≤ m) : bits (lo.setWidth m) start len = bits lo start len :=
  BitVec.extractLsb'_setWidth_of_le h

/-- Two fields side by side are one. -/
theorem bits_append_bits (v : BitVec n) (start lenLo lenHi : Nat) :
    bits v (start + lenLo) lenHi ++ bits v start lenLo = bits v start (lenHi + lenLo) :=
  BitVec.extractLsb'_append_extractLsb'_eq_extractLsb' rfl

theorem ofBool_getLsbD (v : BitVec n) (i : Nat) : BitVec.ofBool (v.getLsbD i) = bits v i 1 := by
  ext j hj
  obtain rfl : j = 0 := by omega
  simp [bits]

end

/-- A word is its two bytes (R37). -/
@[simp] theorem wordLE_bits (v : BitVec 16) : wordLE (bits v 0 8) (bits v 8 8) = v :=
  (bits_append_bits v 0 8 8).trans (bits_self v)

/-- A data word of 16 bits is written back as the two bytes it was read from. -/
theorem dataLE_wordLE (f : WordFormat) (lo hi : Byte) :
    dataLE f (wordLE lo hi) = { format := f, word := [lo, hi], operands := [] } := by
  simp [dataLE, wordLE, bits_append_high (n := 8), bits_append_low (n := 8)]

/-! ## The formats: fields to word and back (R50 to R52, R109) -/

section
variable (b5 g5 r5 : BitVec 5)

theorem decodeHwcolor_colorBits :
    decodeHwcolor ((colorBits b5 g5 r5).setWidth 16) = .ok (.hwcolor b5 g5 r5) := by
  simp [decodeHwcolor, colorBits, bits_setWidth, bits_append_high (n := 5), bits_append_low (n := 5)]

theorem decodeColorword_colorBits :
    decodeColorword ((colorBits b5 g5 r5).setWidth 16) = .ok (.colorword b5 g5 r5) := by
  simp [decodeColorword, colorBits, bits_setWidth, bits_append_high (n := 5), bits_append_low (n := 5)]

end

/-- A 16-bit word whose bit 15 is 0 is the colour word of its three fields. -/
theorem colorBits_fields (v : BitVec 16) (h : v.getLsbD 15 = false) :
    (colorBits (bits v 10 5) (bits v 5 5) (bits v 0 5)).setWidth 16 = v := by
  have hlow : colorBits (bits v 10 5) (bits v 5 5) (bits v 0 5) = bits v 0 15 := by
    rw [colorBits, bits_append_bits v 5 5 5, bits_append_bits v 0 5 10]
  rw [hlow]
  ext i hi
  obtain hlt | rfl : i < 15 ∨ i = 15 := by omega
  · simp [bits, hlt, BitVec.getLsbD_eq_getElem hi]
  · simpa [bits] using h.symm

section
variable (v h p : Bool) (c : BitVec 3) (t : BitVec 10)

theorem tmwordBits_flags : (tmwordBits v h p c t).getLsbD 15 = v ∧ (tmwordBits v h p c t).getLsbD 14 = h ∧
    (tmwordBits v h p c t).getLsbD 13 = p := by
  simp only [tmwordBits, BitVec.getLsbD_append]
  simp

theorem tmwordBits_paletteId : bits (tmwordBits v h p c t) 10 3 = c := by
  rw [tmwordBits, bits_append_high _ _ (by decide), bits_append_low _ _ (by decide)]
  exact bits_self c

theorem tmwordBits_tileId : bits (tmwordBits v h p c t) 0 10 = t := by
  rw [tmwordBits, bits_append_low _ _ (by decide), bits_self]

theorem decodeTmword_tmwordBits : decodeTmword (tmwordBits v h p c t) = .tmword v h p c t := by
  obtain ⟨hv, hh, hp⟩ := tmwordBits_flags v h p c t
  rw [decodeTmword, hv, hh, hp, tmwordBits_paletteId, tmwordBits_tileId]

end

theorem tmwordBits_fields (w : BitVec 16) :
    tmwordBits (w.getLsbD 15) (w.getLsbD 14) (w.getLsbD 13) (bits w 10 3) (bits w 0 10) = w := by
  rw [tmwordBits, ofBool_getLsbD, ofBool_getLsbD, ofBool_getLsbD, bits_append_bits w 14 1 1,
    bits_append_bits w 13 1 2, bits_append_bits w 10 3 3, bits_append_bits w 0 10 6]
  exact bits_self w

section
variable (v h p : Bool) (c : BitVec 3) (t : BitVec 2)

theorem tmbyte1Bits_flags : (tmbyte1Bits v h p c t).getLsbD 7 = v ∧ (tmbyte1Bits v h p c t).getLsbD 6 = h ∧
    (tmbyte1Bits v h p c t).getLsbD 5 = p := by
  simp only [tmbyte1Bits, BitVec.getLsbD_append]
  simp

theorem tmbyte1Bits_paletteId : bits (tmbyte1Bits v h p c t) 2 3 = c := by
  rw [tmbyte1Bits, bits_append_high _ _ (by decide), bits_append_low _ _ (by decide)]
  exact bits_self c

theorem tmbyte1Bits_tileIdHi : bits (tmbyte1Bits v h p c t) 0 2 = t := by
  rw [tmbyte1Bits, bits_append_low _ _ (by decide), bits_self]

theorem decodeTmbyte1_tmbyte1Bits : decodeTmbyte1 (tmbyte1Bits v h p c t) = .tmbyte1 v h p c t := by
  obtain ⟨hv, hh, hp⟩ := tmbyte1Bits_flags v h p c t
  rw [decodeTmbyte1, hv, hh, hp, tmbyte1Bits_paletteId, tmbyte1Bits_tileIdHi]

end

theorem tmbyte1Bits_fields (w : Byte) :
    tmbyte1Bits (w.getLsbD 7) (w.getLsbD 6) (w.getLsbD 5) (bits w 2 3) (bits w 0 2) = w := by
  rw [tmbyte1Bits, ofBool_getLsbD, ofBool_getLsbD, ofBool_getLsbD, bits_append_bits w 6 1 1,
    bits_append_bits w 5 1 2, bits_append_bits w 2 3 3, bits_append_bits w 0 2 6]
  exact bits_self w

theorem decodePlanebyte_planeBits (x0 x1 x2 x3 x4 x5 x6 x7 : Bool) :
    decodePlanebyte (planeBits x0 x1 x2 x3 x4 x5 x6 x7) = .planebyte x0 x1 x2 x3 x4 x5 x6 x7 := by
  simp only [decodePlanebyte, planeBits, BitVec.getLsbD_append]
  simp

theorem planeBits_fields (w : Byte) :
    planeBits (w.getLsbD 7) (w.getLsbD 6) (w.getLsbD 5) (w.getLsbD 4)
      (w.getLsbD 3) (w.getLsbD 2) (w.getLsbD 1) (w.getLsbD 0) = w := by
  simp only [planeBits, ofBool_getLsbD]
  rw [bits_append_bits w 6 1 1, bits_append_bits w 5 1 2, bits_append_bits w 4 1 3, bits_append_bits w 3 1 4,
    bits_append_bits w 2 1 5, bits_append_bits w 1 1 6, bits_append_bits w 0 1 7]
  exact bits_self w

/-! ## Decode and encode -/

/-- An operation's command decodes to what its operands make. -/
theorem decode_cmdOf (o : OpCode) (operands : List Operand) :
    decode (cmdOf o operands) = decodeOperands o operands := by
  simp only [decode, cmdOf, decodeCmd, opcodeOf_code]

/-- Settles O5: an operation by its code and operands, a data word by its format's fields. -/
theorem decodeOfEncodeIsTheInstruction : Obligations.DecodeOfEncodeIsTheInstruction := by
  unfold Obligations.DecodeOfEncodeIsTheInstruction
  intro i
  cases i with
  | quant | xlin8 | xlin16 | xscr | tprobe | xlarge | split16 | hflip16 | vflip16 | palbuild | palraw | convert
  | pack | packlin | tmser | tmsplit | tmsplitc => exact decode_cmdOf _ _
  | hwcolor b5 g5 r5 => simp only [decode, encode, dataLE, wordLE_bits, decodeHwcolor_colorBits]
  | colorword b5 g5 r5 => simp only [decode, encode, dataLE, wordLE_bits, decodeColorword_colorBits]
  | tmword v h p c t => simp only [decode, encode, dataLE, wordLE_bits, decodeTmword_tmwordBits]
  | tmbyte0 t => rfl
  | tmbyte1 v h p c t => simp only [decode, encode, dataByte, decodeTmbyte1_tmbyte1Bits]
  | planebyte x0 x1 x2 x3 x4 x5 x6 x7 => simp only [decode, encode, dataByte, decodePlanebyte_planeBits]

/-- Operands that make an instruction are those it is written with: each row of R47 names the two alike. -/
theorem encode_of_decodeOperands {o : OpCode} {operands : List Operand} {i : Instr}
    (h : decodeOperands o operands = .ok i) : encode i = cmdOf o operands := by
  unfold decodeOperands at h
  split at h
  all_goals cases h
  all_goals rfl

/-- A one-byte code word with operands that make an instruction is how that instruction is written. -/
theorem encode_of_decodeCmd {op : Byte} {operands : List Operand} {i : Instr}
    (h : decodeCmd op operands = .ok i) : encode i = { format := .cmd, word := [op], operands := operands } := by
  unfold decodeCmd at h
  split at h
  next o hcode => rw [encode_of_decodeOperands h, cmdOf, opcodeOf_eq_some_iff.mp hcode]
  next => cases h

theorem encode_of_decodeHwcolor {v : BitVec 16} {i : Instr} (h : decodeHwcolor v = .ok i) :
    encode i = dataLE .hwcolor v := by
  unfold decodeHwcolor at h
  split at h
  next => cases h
  next htop =>
    cases h
    rw [encode, colorBits_fields v (by simpa using htop)]

theorem encode_of_decodeColorword {v : BitVec 16} {i : Instr} (h : decodeColorword v = .ok i) :
    encode i = dataLE .colorword v := by
  unfold decodeColorword at h
  split at h
  next => cases h
  next htop =>
    cases h
    rw [encode, colorBits_fields v (by simpa using htop)]

/-- Settles O6: one case for each row of the decoder. -/
theorem encodeOfDecodeIsTheCommand : Obligations.EncodeOfDecodeIsTheCommand := by
  unfold Obligations.EncodeOfDecodeIsTheCommand
  rintro ⟨format, word, operands⟩ i h
  simp only [decode] at h
  split at h
  next => exact encode_of_decodeCmd h
  next lo hi => exact (encode_of_decodeHwcolor h).trans (dataLE_wordLE _ lo hi)
  next lo hi => exact (encode_of_decodeColorword h).trans (dataLE_wordLE _ lo hi)
  next lo hi =>
    cases h
    rw [decodeTmword, encode, tmwordBits_fields, dataLE_wordLE]
  next v =>
    cases h
    rfl
  next v =>
    cases h
    rw [decodeTmbyte1, encode, tmbyte1Bits_fields, dataByte]
  next v =>
    cases h
    rw [decodePlanebyte, encode, planeBits_fields, dataByte]
  next => cases h

/-! ## What the operations write (R61, R85, R109, R121) -/

/-- A shift and a mask take out a field. -/
theorem shiftRight_and_mask {w : Nat} (v mask : BitVec w) (s n k : Nat)
    (hmask : mask = (BitVec.allOnes n).setWidth w) : ((v >>> s) &&& mask).setWidth k = (bits v s n).setWidth k := by
  subst hmask
  ext i hi
  by_cases hw : i < w
  · simp [bits, hw, Bool.and_comm]
  · simp [bits, hw, BitVec.getLsbD_of_ge v (s + i) (by omega)]

theorem setWidth_shiftRight {w : Nat} (v : BitVec w) (s n : Nat) : (v >>> s).setWidth n = bits v s n := by
  ext i hi
  simp [bits]

theorem flagByte_eq_setWidth (b : Bool) : flagByte b = (BitVec.ofBool b).setWidth 8 := by
  cases b <;> rfl

/-- Making room by a shift and putting bits there is writing them side by side. -/
theorem shiftLeft_or {m n k : Nat} (hi : BitVec m) (lo : BitVec n) :
    (hi.setWidth k <<< n) ||| lo.setWidth k = (hi ++ lo).setWidth k :=
  BitVec.setWidth_append_eq_shiftLeft_setWidth_or.symm

/-- A channel without its low three bits has five. -/
theorem setWidth_channel (c : Byte) : (c >>> 3).setWidth 15 = ((c >>> 3).setWidth 5).setWidth 15 := by
  ext i hi
  by_cases h : i < 5
  · simp [h, show 3 + i < 15 by omega]
  · simp [h, BitVec.getLsbD_of_ge c (3 + i) (by omega)]

theorem quantize_eq_colorBits (p : RGB) : quantize p
    = colorBits ((p.b >>> 3).setWidth 5) ((p.g >>> 3).setWidth 5) ((p.r >>> 3).setWidth 5) := by
  rw [quantize, setWidth_channel, setWidth_channel, setWidth_channel, BitVec.shiftLeft_add _ 5 5,
    ← BitVec.shiftLeft_or_distrib, shiftLeft_or, shiftLeft_or]
  exact BitVec.setWidth_eq _

theorem colorBytes_eq_bits (c : HwColor) : colorBytes c = [bits c 0 8, bits c 8 8] := by
  have hlow := shiftRight_and_mask c 0xFF 0 8 8 rfl
  rw [BitVec.ushiftRight_zero, BitVec.setWidth_eq] at hlow
  rw [colorBytes, hlow, setWidth_shiftRight]

theorem planeByte_eq_planeBits (p : CTile) (y plane : Nat) : planeByte p y plane
    = planeBits (planeBit p y plane 0) (planeBit p y plane 1) (planeBit p y plane 2) (planeBit p y plane 3)
        (planeBit p y plane 4) (planeBit p y plane 5) (planeBit p y plane 6) (planeBit p y plane 7) := by
  have hfirst (b : Byte) : (0 : Byte) <<< 1 ||| b = b := by simp
  simp only [planeByte, List.range_succ, List.range_zero, List.nil_append, List.foldl_append, List.foldl_cons,
    List.foldl_nil, hfirst, flagByte_eq_setWidth, shiftLeft_or]
  exact BitVec.setWidth_eq _

/-- The two bytes of a tilemap word make it (R52). -/
theorem wordLE_tmbyte1Bits (v h p : Bool) (c : BitVec 3) (t : BitVec 10) :
    wordLE (bits t 0 8) (tmbyte1Bits v h p c (bits t 8 2)) = tmwordBits v h p c t := by
  have ht : bits t 0 (2 + 8) = t := bits_self t
  rw [wordLE, tmbyte1Bits, BitVec.append_assoc, bits_append_bits t 0 8 2, ht]
  rfl

theorem tmByte0_eq_bits (e : TmEntry) : tmByte0 e = bits e.tileId 0 8 := by
  have h := shiftRight_and_mask e.tileId 0xFF 0 8 8 rfl
  rwa [BitVec.ushiftRight_zero, BitVec.setWidth_eq] at h

theorem tmByte1_eq_bits (e : TmEntry) (pri : Bool) :
    tmByte1 e pri = tmbyte1Bits e.vflip e.hflip pri e.paletteId (bits e.tileId 8 2) := by
  have hpalette : ∀ c : BitVec 3, c.setWidth 8 &&& 0x07 = c.setWidth 8 := by decide
  have hnested (v h p c t : Byte) : t ||| c <<< 2 ||| (p <<< 5 ||| h <<< 6 ||| v <<< 7)
      = (((v <<< 1 ||| h) <<< 1 ||| p) <<< 3 ||| c) <<< 2 ||| t := by
    simp only [BitVec.shiftLeft_or_distrib, ← BitVec.shiftLeft_add, Nat.reduceAdd]
    ac_rfl
  rw [tmByte1, flagBits, shiftRight_and_mask e.tileId 0x03 8 2 8 rfl, hpalette]
  simp only [flagByte_eq_setWidth, hnested, shiftLeft_or]
  exact BitVec.setWidth_eq _

theorem encode_tmword (e : TmEntry) (pri : Bool) :
    (encode (.tmword e.vflip e.hflip pri e.paletteId e.tileId)).word = [(tmWord e pri).1, (tmWord e pri).2] := by
  rw [encode, ← wordLE_tmbyte1Bits, dataLE_wordLE, ← tmByte0_eq_bits, ← tmByte1_eq_bits, tmWord]

/-- Settles O39. -/
theorem operationsWriteTheDataFormats : Obligations.OperationsWriteTheDataFormats := by
  unfold Obligations.OperationsWriteTheDataFormats
  refine ⟨quantize_eq_colorBits, fun b5 g5 r5 => ?_, encode_tmword, planeByte_eq_planeBits⟩
  rw [colorBytes_eq_bits, encode, dataLE, bits_setWidth _ (by decide), bits_setWidth _ (by decide)]

/-! ## Refusals (R47, R49, R59, R143) -/

/-- Settles O47. -/
theorem dataFormatsAreNoOperations : Obligations.DataFormatsAreNoOperations :=
  ⟨fun _ _ _ _ => rfl, fun _ _ _ _ => rfl, fun _ _ _ _ _ _ => rfl, fun _ _ => rfl, fun _ _ _ _ _ _ => rfl,
    fun _ _ _ _ _ _ _ _ _ => rfl⟩

theorem withOperands_refused (mn : String) {inRange : Bool} (h : inRange = false)
    (run : Host.Outcome State Fault Refusal) :
    ∃ mn', withOperands mn inRange run = .refused (.operandRange mn') :=
  ⟨mn, by rw [h, withOperands_false]⟩

/-- Only a value the host gives can be out of range, and that value is the one the operation checks (R28). -/
theorem check_srcValue_of_not_ok {α : Type} {check : α → Bool} {src : Src α} (h : src.ok check = false) (stored : α) :
    check (srcValue stored src) = false := by
  cases src with
  | store => cases h
  | given v => exact h

/-- Settles O45: the check `wellFormed` fails is the one the operation's meaning opens with. -/
theorem operandsOutOfRangeAreRefused : Obligations.OperandsOutOfRangeAreRefused := by
  unfold Obligations.OperandsOutOfRangeAreRefused
  intro i s h
  cases i with
  | quant | palraw | tmser | tmsplit | tmsplitc | hwcolor | colorword | tmword | tmbyte0 | tmbyte1 | planebyte =>
    cases h
  | xlin8 | xlin16 | xscr | tprobe | xlarge | split16 | hflip16 | vflip16 | palbuild =>
    exact withOperands_refused _ h _
  | convert tiles table =>
    refine withOperands_refused _ ?_ _
    obtain h | h := Bool.and_eq_false_iff.mp h
    · rw [h, Bool.false_and]
    · rw [check_srcValue_of_not_ok h, Bool.and_false]
  | pack ts bpp =>
    refine withOperands_refused _ ?_ _
    obtain h | h := Bool.and_eq_false_iff.mp h
    · rw [check_srcValue_of_not_ok h, Bool.false_and]
    · rw [h, Bool.and_false]
  | packlin ts => exact withOperands_refused _ (check_srcValue_of_not_ok h s.ts) _

end Sys2Proof.Machine
end

section
/-! PROOFS. What a reader finds in the bytes: tilemap entries and packed tiles (R114, R122, R125). -/

namespace Sys2Proof.Machine

open Sys2Proof

/-! ## Buffers made of chunks of one length -/

section
variable {α β : Type} {f : α → List β} {w : Nat} (hf : ∀ a, (f a).length = w)
include hf

theorem drop_flatMap_chunks (l : List α) (k : Nat) : (l.flatMap f).drop (k * w) = (l.drop k).flatMap f := by
  induction k generalizing l with
  | zero => simp
  | succ k ih =>
    cases l with
    | nil => simp
    | cons a l =>
      rw [List.flatMap_cons, Nat.succ_mul, Nat.add_comm, ← List.drop_drop, List.drop_left' (hf a), ih,
        List.drop_succ_cons]

/-- Chunk `k` begins at `k * w`. -/
theorem drop_flatMap_of_getElem? {l : List α} {k : Nat} {a : α} (ha : l[k]? = some a) :
    (l.flatMap f).drop (k * w) = f a ++ (l.drop (k + 1)).flatMap f := by
  obtain ⟨hk, rfl⟩ := List.getElem?_eq_some_iff.mp ha
  rw [drop_flatMap_chunks hf, List.drop_eq_getElem_cons hk, List.flatMap_cons]

theorem take_drop_flatMap {l : List α} {k : Nat} {a : α} (ha : l[k]? = some a) :
    ((l.flatMap f).drop (k * w)).take w = f a := by
  rw [drop_flatMap_of_getElem? hf ha, List.take_left' (hf a)]

theorem getElem?_flatMap_chunk {l : List α} {k j : Nat} {a : α} (ha : l[k]? = some a) (hj : j < w) :
    (l.flatMap f)[k * w + j]? = (f a)[j]? := by
  rw [← List.getElem?_drop, drop_flatMap_of_getElem? hf ha, List.getElem?_append_left (by rw [hf a]; exact hj)]

end

/-! ## Tilemap entries -/

/-- Reading back the fields of R121 (R125). -/
theorem tmDecode_tmWord (e : TmEntry) (pri : Bool) : tmDecode (tmWord e pri).1 (tmWord e pri).2 = (e, pri) := by
  obtain ⟨t, c, h, v⟩ := e
  obtain ⟨hv, hh, hp⟩ := tmbyte1Bits_flags v h pri c (bits t 8 2)
  have hc := shiftRight_and_mask (tmbyte1Bits v h pri c (bits t 8 2)) 0x07 2 3 3 rfl
  have ht := shiftRight_and_mask (tmbyte1Bits v h pri c (bits t 8 2)) 0x03 0 2 10 rfl
  have hid : bits t 8 2 ++ bits t 0 8 = t := (bits_append_bits t 0 8 2).trans (bits_self t)
  rw [tmbyte1Bits_paletteId, BitVec.setWidth_eq] at hc
  rw [BitVec.ushiftRight_zero, tmbyte1Bits_tileIdHi] at ht
  rw [tmWord, tmByte0_eq_bits, tmByte1_eq_bits, tmDecode, hv, hh, hp, hc, ht, shiftLeft_or, hid, BitVec.setWidth_eq]

/-- Entry `n` of the combined stream reads back as it was written. -/
theorem readEntry_tmCombined {tm : List TmEntry} {n : Nat} {e : TmEntry} (he : tm[n]? = some e) (pri : Bool) :
    readEntry (tmCombined tm pri) n = some (e, pri) := by
  have hpair (j : Nat) (hj : j < 2) : (tmCombined tm pri)[2 * n + j]? = [(tmWord e pri).1, (tmWord e pri).2][j]? := by
    rw [Nat.mul_comm]
    exact getElem?_flatMap_chunk (w := 2) (fun _ => rfl) he hj
  rw [readEntry, hpair 1 (by decide), ← Nat.add_zero (2 * n), hpair 0 (by decide)]
  simp [tmDecode_tmWord]

/-! ## Packed tiles -/

section
variable {bpp : Nat}

theorem mem_pairBases {b : Nat} : b ∈ pairBases bpp ↔ (b = 0 ∨ b = 2 ∨ b = 4 ∨ b = 6) ∧ b < bpp := by
  simp [pairBases]

theorem mem_pairPlanes {b q : Nat} : q ∈ pairPlanes bpp b ↔ q = b ∨ q = b + 1 ∧ q < bpp := by
  unfold pairPlanes
  split <;> simp <;> omega

/-- A packed tile holds each plane of the depth once for each row. -/
theorem mem_planeOrder (hbpp : bpp ≤ 8) {y q : Nat} : (y, q) ∈ planeOrder bpp ↔ y < 8 ∧ q < bpp := by
  simp only [planeOrder, List.mem_flatMap, List.mem_range, List.mem_map, Prod.mk.injEq, mem_pairBases, mem_pairPlanes]
  constructor
  · rintro ⟨b, ⟨-, hb⟩, y', hy, q', hq, rfl, rfl⟩
    omega
  · rintro ⟨hy, hq⟩
    exact ⟨q - q % 2, by omega, y, hy, q, by omega, rfl, rfl⟩

theorem length_planeOrder (h1 : 1 ≤ bpp) (h8 : bpp ≤ 8) : (planeOrder bpp).length = bpp * 8 := by
  interval_cases bpp <;> rfl

end

/-- Column `x` of a plane byte is its bit `7 - x` (R38). -/
theorem getLsbD_planeByte (p : CTile) (y plane : Nat) {x : Nat} (hx : x < 8) :
    (planeByte p y plane).getLsbD (7 - x) = planeBit p y plane x := by
  have hfields := decodePlanebyte_planeBits (planeBit p y plane 0) (planeBit p y plane 1) (planeBit p y plane 2)
    (planeBit p y plane 3) (planeBit p y plane 4) (planeBit p y plane 5) (planeBit p y plane 6) (planeBit p y plane 7)
  rw [← planeByte_eq_planeBits, decodePlanebyte] at hfields
  injection hfields
  interval_cases x <;> assumption

theorem getLsbD_flagByte (b : Bool) (i : Nat) : (flagByte b).getLsbD i = (b && decide (i = 0)) := by
  rw [flagByte_eq_setWidth, BitVec.getLsbD_setWidth, BitVec.getLsbD_ofBool]
  by_cases hi : i = 0
  · subst hi
    simp
  · simp [hi]

/-- Bit `q` of an index collected plane by plane is the one the byte of row `y` and plane `q` gives. -/
theorem getLsbD_collect (l : List (Nat × Nat)) (g : Nat × Nat → Bool) (acc : Index) (y : Nat) {q : Nat} (hq : q < 8) :
    (l.foldl (fun acc e => if e.1 = y then acc ||| (flagByte (g e) <<< e.2) else acc) acc).getLsbD q
      = (acc.getLsbD q || (decide ((y, q) ∈ l) && g (y, q))) := by
  induction l generalizing acc with
  | nil => simp
  | cons e l ih =>
    obtain ⟨y', q'⟩ := e
    have hbit : (flagByte (g (y', q')) <<< q').getLsbD q = (g (y', q') && decide (q' = q)) := by
      rw [BitVec.getLsbD_shiftLeft, getLsbD_flagByte]
      by_cases h : q' = q
      · simp [h, hq]
      · by_cases hlt : q < q'
        · simp [h, hlt]
        · simp [h, hlt, show ¬ q - q' = 0 by omega]
    rw [List.foldl_cons, ih]
    by_cases hy : y' = y
    · subst hy
      rw [if_pos rfl, BitVec.getLsbD_or, hbit]
      by_cases h : q' = q
      · subst h
        by_cases hmem : (y', q') ∈ l <;> simp [hmem]
      · simp [h, Ne.symm h]
    · simp [hy, Ne.symm hy]

/-- An index unpacked from a packed tile has the bits of the pixel below the depth and no others (R111, R114). -/
theorem getLsbD_unpackIndex_packTile (p : CTile) {bpp x y q : Nat} (hbpp : bpp ≤ 8) (hx : x < 8) (hy : y < 8)
    (hq : q < 8) :
    (unpackIndex (packTile p bpp) bpp y x).getLsbD q = (decide (q < bpp) && planeBit p y q x) := by
  have hfold : unpackIndex (packTile p bpp) bpp y x = (planeOrder bpp).foldl
      (fun acc e => if e.1 = y then acc ||| (flagByte (planeBit p e.1 e.2 x) <<< e.2) else acc) 0 := by
    rw [unpackIndex, packTile, ← List.map_prod_left_eq_zip, List.foldl_map]
    simp only [getLsbD_planeByte p _ _ hx]
  rw [hfold, getLsbD_collect _ (fun e => planeBit p e.1 e.2 x) 0 y hq]
  simp [mem_planeOrder hbpp, hy]

theorem unpackTile_getElem? (bs : Bytes) (bpp : Nat) {x y : Nat} (hx : x < 8) (hy : y < 8) :
    (unpackTile bs bpp)[8 * y + x]? = some (unpackIndex bs bpp y x) := by
  rw [unpackTile, List.getElem?_map, blockCoords_getElem? 8 8 x y hx hy]
  rfl

theorem unpackTile_length (bs : Bytes) (bpp : Nat) : (unpackTile bs bpp).length = 64 := by
  simp [unpackTile]

/-- Unpacking undoes packing where the indices fit the depth (R115). -/
theorem unpackTile_packTile {p : CTile} {bpp : Nat} (hbpp : bpp ≤ 8) (hp : p.length = 64)
    (hfit : ∀ i ∈ p, i.toNat < 2 ^ bpp) : unpackTile (packTile p bpp) bpp = p := by
  refine tile_ext (unpackTile_length _ _) hp fun x y hx hy => ?_
  have hi : 8 * y + x < p.length := hp ▸ rowMajor_lt hx hy
  rw [unpackTile_getElem? _ _ hx hy, List.getElem?_eq_getElem hi]
  refine congrArg some (BitVec.eq_of_getLsbD_eq fun q hq => ?_)
  rw [getLsbD_unpackIndex_packTile p hbpp hx hy hq, planeBit, List.getD_eq_getElem p 0 hi]
  by_cases h : q < bpp
  · simp [h]
  · have hlt : p[8 * y + x].toNat < 2 ^ q :=
      (hfit _ (List.getElem_mem hi)).trans_le (Nat.pow_le_pow_right (by decide) (by omega))
    simp [h, ← BitVec.testBit_toNat, Nat.testBit_lt_two_pow hlt]

theorem packTile_length (p : CTile) {bpp : Nat} (h1 : 1 ≤ bpp) (h8 : bpp ≤ 8) :
    (packTile p bpp).length = bpp * 8 := by
  rw [packTile, List.length_map, length_planeOrder h1 h8]

/-- The tile a reader finds under tile id `k` of the packed tileset is tile `k`. -/
theorem readTile_packed {ts : List CTile} {k bpp : Nat} {p : CTile} (h1 : 1 ≤ bpp) (h8 : bpp ≤ 8)
    (hk : ts[k]? = some p) (hp : p.length = 64) (hfit : ∀ i ∈ p, i.toNat < 2 ^ bpp) :
    readTile (ts.flatMap (fun p => packTile p bpp)) bpp k = p := by
  rw [readTile, take_drop_flatMap (fun p => packTile_length p h1 h8) hk, unpackTile_packTile h8 hp hfit]

end Sys2Proof.Machine
end

section
/-! PROOFS. Pixels: where an extracted tile, a scanned colour and a palette index come from. -/

namespace Sys2Proof.Machine

open Sys2Proof

/-! ## Reading pixels in order (R32, R64, R68, R80) -/

/-- Where every read has a value, the list of the values is read position by position. -/
theorem getElem?_filterMap_of_isSome {α β : Type} {f : α → Option β} {l : List α} (h : ∀ a ∈ l, (f a).isSome)
    (k : Nat) : (l.filterMap f)[k]? = (l[k]?).bind f := by
  induction l generalizing k with
  | nil => rfl
  | cons a l ih =>
    obtain ⟨ha, hl⟩ := List.forall_mem_cons.mp h
    obtain ⟨b, hb⟩ := Option.isSome_iff_exists.mp ha
    rw [List.filterMap_cons_some hb]
    cases k with
    | zero => simp [hb]
    | succ k => simpa using ih hl k

section
variable {S : Surface} (hS : S.ok = true)
include hS

theorem pixelColor_isSome {x y : Nat} (hx : x < S.W) (hy : y < S.H) : (pixelColor S x y).isSome := by
  obtain ⟨p, hp⟩ := surfRead_isSome S hS x y hx hy
  simp [pixelColor, hp]

theorem extractBlock_getElem? {n x0 y0 x y : Nat} (hx0 : x0 + n ≤ S.W) (hy0 : y0 + n ≤ S.H) (hx : x < n)
    (hy : y < n) : (extractBlock S n x0 y0)[n * y + x]? = pixelColor S (x0 + x) (y0 + y) := by
  have hread : ∀ c ∈ blockCoords n n, (pixelColor S (x0 + c.1) (y0 + c.2)).isSome := fun c hc => by
    obtain ⟨hcx, hcy⟩ := (mem_blockCoords n n c).mp hc
    exact pixelColor_isSome hS (by omega) (by omega)
  have hget := getElem?_filterMap_of_isSome hread (n * y + x)
  rwa [blockCoords_getElem? n n x y hx hy] at hget

/-- The scan order is row-major: colour `k` is that of column `k % W` of row `k / W`. -/
theorem pixelColor_of_scanColors {k : Nat} {c : HwColor} (h : (scanColors S)[k]? = some c) :
    pixelColor S (k % S.W) (k / S.W) = some c := by
  have hk : k < S.W * S.H := (List.getElem?_eq_some_iff.mp h).1.trans_le (length_scanColors_le S)
  have hW : 0 < S.W := Nat.pos_of_mul_pos_right (Nat.zero_lt_of_lt hk)
  have hread : ∀ c ∈ blockCoords S.W S.H, (pixelColor S c.1 c.2).isSome := fun c hc => by
    obtain ⟨hcx, hcy⟩ := (mem_blockCoords S.W S.H c).mp hc
    exact pixelColor_isSome hS hcx hcy
  have hget := getElem?_filterMap_of_isSome hread k
  have hcoords := blockCoords_getElem? S.W S.H (k % S.W) (k / S.W) (Nat.mod_lt _ hW)
    (Nat.div_lt_of_lt_mul hk)
  rw [Nat.div_add_mod] at hcoords
  rw [hcoords] at hget
  exact hget.symm.trans h

end

/-- Screen-block order: 1024 tiles a screen, the screens row-major, in each the tiles row-major (R68). -/
theorem screenOrderTiles_getElem? (S : Surface) {sx sy tx ty : Nat} (hsx : sx < S.W / 256) (hsy : sy < S.H / 256)
    (htx : tx < 32) (hty : ty < 32) :
    (screenOrderTiles S)[1024 * (sy * (S.W / 256) + sx) + 32 * ty + tx]?
      = some (extractSmall S (256 * sx + 8 * tx) (256 * sy + 8 * ty)) := by
  have hscreen : (blockCoords (S.W / 256) (S.H / 256))[sy * (S.W / 256) + sx]? = some (sx, sy) := by
    rw [Nat.mul_comm sy]
    exact blockCoords_getElem? _ _ sx sy hsx hsy
  have htile : (screenTiles S sx sy)[32 * ty + tx]?
      = some (extractSmall S (256 * sx + 8 * tx) (256 * sy + 8 * ty)) := by
    rw [screenTiles, List.getElem?_map, blockCoords_getElem? 32 32 tx ty htx hty]
    rfl
  have hlen (c : Nat × Nat) : (screenTiles S c.1 c.2).length = 1024 := by simp [screenTiles]
  rw [Nat.add_assoc, Nat.mul_comm 1024, ← htile]
  exact getElem?_flatMap_chunk hlen hscreen (by omega)

/-! ## A palette index is a slot (R81, R87) -/

/-- An index of a built palette was there before, or it is the offset of its colour in the group. -/
theorem mapLookup_buildPalette {cs : List HwColor} {n : Nat} {m : Palette} {c : HwColor} {i : Index}
    (hlen : n + cs.length ≤ 256) (h : mapLookup c (buildPalette cs n m) = some i) :
    mapLookup c m = some i ∨ (n ≤ i.toNat ∧ cs[i.toNat - n]? = some c) := by
  induction cs generalizing n m with
  | nil => exact .inl h
  | cons d cs ih =>
    rw [List.length_cons] at hlen
    obtain hold | ⟨hi, hget⟩ := ih (by omega) h
    · rw [mapLookup_insertNew] at hold
      split at hold
      next hcd =>
        subst hcd
        cases hc : mapLookup c m with
        | some j => exact .inl (by simpa [hc] using hold)
        | none =>
          have hin : BitVec.ofNat 8 n = i := by simpa [hc] using hold
          have hi : i.toNat = n := by rw [← hin, BitVec.toNat_ofNat]; omega
          exact .inr ⟨hi.ge, by simp [hi]⟩
      next => exact .inl hold
    · refine .inr ⟨by omega, ?_⟩
      rwa [show i.toNat - n = i.toNat - (n + 1) + 1 by omega, List.getElem?_cons_succ]

/-- Index `i` of palette `g` stands for colour `g * n + i` of the scan. -/
theorem getElem?_of_groupPalettes {cols : List HwColor} {n g : Nat} (hn : n ≤ 256) {m : Palette}
    (hm : (groupPalettes cols n)[g]? = some m) {c : HwColor} {i : Index} (hi : mapLookup c m = some i) :
    i.toNat < n ∧ cols[g * n + i.toNat]? = some c := by
  have hgroup : m = buildPalette (colorGroup cols n g) 0 [] := by
    rw [groupPalettes, List.getElem?_map] at hm
    obtain ⟨g', hg, rfl⟩ := Option.map_eq_some_iff.mp hm
    obtain ⟨hlt, hg⟩ := List.getElem?_eq_some_iff.mp hg
    rw [← hg, List.getElem_range]
  have hlen : 0 + (colorGroup cols n g).length ≤ 256 :=
    (Nat.zero_add _).le.trans ((List.length_take_le _ _).trans hn)
  obtain hnil | ⟨-, hget⟩ := mapLookup_buildPalette hlen (hgroup ▸ hi)
  · cases hnil
  · have hlt : i.toNat < n :=
      (List.getElem?_eq_some_iff.mp hget).1.trans_le (List.length_take_le _ _)
    rw [Nat.sub_zero, colorGroup, List.getElem?_take_of_lt hlt, List.getElem?_drop] at hget
    exact ⟨hlt, hget⟩

/-! ## The tile an entry reproduces (R26, R99, R100) -/

/-- A mirror image has every element of the tile. -/
theorem mem_mirror {t : CTile} (ht : t.length = 64) (h v : Bool) {i : Index} (hi : i ∈ t) : i ∈ mirror h v t := by
  obtain ⟨k, hk, rfl⟩ := List.getElem_of_mem hi
  have hget := mirror_getElem? ht h v (x := if h then 7 - k % 8 else k % 8) (y := if v then 7 - k / 8 else k / 8)
    (by split <;> omega) (by split <;> omega)
  have hcol : (if h then 7 - (if h then 7 - k % 8 else k % 8) else if h then 7 - k % 8 else k % 8) = k % 8 := by
    cases h <;> simp; omega
  have hrow : (if v then 7 - (if v then 7 - k / 8 else k / 8) else if v then 7 - k / 8 else k / 8) = k / 8 := by
    cases v <;> simp; omega
  rw [hcol, hrow, Nat.div_add_mod, List.getElem?_eq_getElem hk] at hget
  exact List.mem_of_getElem? hget

/-- What an entry that reproduces a tile names: a tile of TS, and a palette that covers the tile and maps it to
the tile of TS flipped. -/
theorem Reproduces.palette {table : PaletteTable} {ts : List CTile} {e : TmEntry} {u : Tile8}
    (h : Reproduces table ts e u) : ∃ c m, ts[e.tileId.toNat]? = some c ∧ table[e.paletteId.toNat]? = some m ∧
      covers m u = true ∧ mapTile m u = mirror e.hflip e.vflip c := by
  obtain ⟨c, hc, hcover, hindices⟩ := h
  rw [← choosePalette_index] at hcover
  obtain ⟨⟨m, pid⟩, hchoose, rfl⟩ := Option.map_eq_some_iff.mp hcover
  obtain ⟨hm, hcov, -⟩ := choosePalette_some table u m _ hchoose
  rw [tileIndices_of_chosen hchoose] at hindices
  exact ⟨c, m, hc, hm, hcov, Option.some.inj hindices⟩

/-- POS counts the tiles (R25, R98). -/
theorem convertTiles_pos_eq {table : PaletteTable} {tiles : List Tile8} {s t : State}
    (h : convertTiles table tiles s = some t) : t.pos = s.pos + tiles.length := by
  induction tiles generalizing s with
  | nil =>
    cases h
    rfl
  | cons u rest ih =>
    unfold convertTiles at h
    split at h
    next s1 hpass =>
      rw [ih h, (convertTile_tilePass hpass).pos_eq, List.length_cons]
      omega
    next => cases h

/-- A loop that records no invalid position has covered every tile: each pass emits an entry or records its
position (R25, R105). -/
theorem convertTiles_covers {table : PaletteTable} {tiles : List Tile8} {s t : State} (htiles : tilesOk tiles = true)
    (htable : tableOk table = true) (h : convertTiles table tiles s.clearPass = some t) (hinv : t.inv = []) :
    List.Forall₂ (Reproduces table t.ts) t.tm tiles := by
  have hentries := entriesReproduceTheirTiles tiles table s t htiles htable h
  have hcount : t.pos = t.tm.length + t.inv.length := convertTiles_pos rfl h
  have hpos := convertTiles_pos_eq h
  have hall : (coveredTiles table tiles).length = tiles.length := by
    rw [← hentries.length_eq]
    simp only [hinv, List.length_nil, clearPass_pos] at hcount hpos
    omega
  rwa [List.filter_eq_self.mpr (List.length_filter_eq_length_iff.mp hall)] at hentries

end Sys2Proof.Machine
end

section
/-! PROOFS. The five operations of PIPE_SCREEN, and what their bytes draw. -/

namespace Sys2Proof.Machine

open Sys2Proof

/-! ## A sequence that delivers more than one result (R60) -/

/-- Where a sequence delivers more than its first operation does, that operation ended in `Ok` and the sequence
went on with its value. -/
theorem andThen_exec_next {i : Instr} {s t : State} {k : Value → State → Host.Outcome State Fault Refusal}
    (h : andThen (exec i s) k = .next t) (hmore : s.outbox.length + 1 < t.outbox.length) :
    ∃ v s', exec i s = .next s' ∧ s'.outbox = s.outbox ++ [.ok v] ∧ k v s' = .next t := by
  cases hexec : exec i s with
  | fault r => simp [hexec, andThen] at h
  | refused r => simp [hexec, andThen] at h
  | next s' =>
    obtain ⟨⟨r, hout⟩, -⟩ := operationsTouchOnlyTheirStores i s s' hexec
    have hlast : s'.outbox.getLast? = some r := by rw [hout, List.getLast?_concat]
    rw [hexec] at h
    cases r with
    | ok v => exact ⟨v, s', rfl, hout, by simpa only [andThen, hlast] using h⟩
    | err kind info =>
      obtain rfl : s' = t := by simpa [andThen, hlast] using h
      simp [hout] at hmore

/-! ## The operations of the sequence, where they end in `Ok` -/

section
variable {s t : State} {v : Value}

theorem execPalbuild_ok {P : Surface} {bpp : Nat} (h : execPalbuild P bpp s = .next t)
    (hout : t.outbox = s.outbox ++ [.ok v]) :
    P.ok = true ∧ P.W = 16 ∧ 1 ≤ bpp ∧ bpp ≤ 8 ∧ t.pt = groupPalettes (scanColors P) (2 ^ bpp) := by
  obtain ⟨hok, hrun⟩ := (withOperands_next _ _ _ t).mp h
  obtain ⟨hP, -⟩ := Bool.and_eq_true_iff.mp hok
  obtain ⟨k, info, rfl⟩ | ⟨h1, h8, -, rfl⟩ := execPalbuild_next h
  · simp at hout
  · refine ⟨hP, ?_, h1, h8, rfl⟩
    by_contra hW
    rw [if_pos hW, raise_next] at hrun
    simpa using congrArg State.outbox hrun

theorem execXscr_ok {S : Surface} (h : execXscr S s = .next t) (hout : t.outbox = s.outbox ++ [.ok v]) :
    S.ok = true ∧ v = .tiles8 (screenOrderTiles S) ∧ t.pt = s.pt := by
  obtain ⟨hS, hrun⟩ := (withOperands_next _ _ _ t).mp h
  split at hrun
  next =>
    obtain rfl := (raise_next _ _ s t).mp hrun
    simp at hout
  next =>
    split at hrun
    next =>
      obtain rfl := (raise_next _ _ s t).mp hrun
      simp at hout
    next =>
      obtain rfl := (succeed_next _ s t).mp hrun
      exact ⟨hS, by simpa using hout.symm, rfl⟩

theorem execConvert_ok {tiles : List Tile8} (h : execConvert tiles .store s = .next t)
    (hout : t.outbox = s.outbox ++ [.ok v]) :
    PassInv t ∧ List.Forall₂ (Reproduces s.pt t.ts) t.tm tiles := by
  obtain ⟨htiles, htable, ⟨k, info, rfl⟩ | ⟨s', hloop, hinv, rfl⟩⟩ := execConvert_next h
  · simp at hout
  · have hpass := convertTiles_passInv htiles (passInv_clearPass s) hloop
    have hentries := convertTiles_covers htiles htable hloop hinv
    exact ⟨hpass.of_stores_eq rfl rfl rfl, hentries⟩

theorem execPack_ok {bpp : Nat} {buf : Bytes} (h : execPack .store bpp s = .next t)
    (hout : t.outbox = s.outbox ++ [.ok (.bytes buf)]) :
    buf = s.ts.flatMap (fun p => packTile p bpp) ∧ t.tm = s.tm := by
  obtain ⟨-, hrun⟩ := (withOperands_next _ _ _ t).mp h
  obtain rfl := (succeed_next _ s t).mp hrun
  exact ⟨by simpa using hout.symm, rfl⟩

theorem execTmser_ok {pri : Bool} {buf : Bytes} (h : execTmser .store pri s = .next t)
    (hout : t.outbox = s.outbox ++ [.ok (.bytes buf)]) : buf = tmCombined s.tm pri := by
  obtain ⟨-, hrun⟩ := (withTilemapLength_next _ _ t).mp h
  obtain rfl := (succeed_next _ s t).mp hrun
  simpa using hout.symm

end

/-- What five `Ok` results of PIPE_SCREEN say: the depth, the two surfaces, and the stores the two buffers were
written from. -/
structure ScreenPass (P S : Surface) (bpp : Nat) (pri : Bool) (tiledata mapdata : Bytes) (u : State) : Prop where
  image : P.ok = true
  width : P.W = 16
  depth_pos : 1 ≤ bpp
  depth_le : bpp ≤ 8
  surface : S.ok = true
  pass : PassInv u
  entries : List.Forall₂ (Reproduces (groupPalettes (scanColors P) (2 ^ bpp)) u.ts) u.tm (screenOrderTiles S)
  packed : tiledata = u.ts.flatMap (fun p => packTile p bpp)
  serialized : mapdata = tmCombined u.tm pri

theorem pipeScreen_pass {P S : Surface} {bpp : Nat} {pri : Bool} {s t : State} {a b c : Value}
    {tiledata mapdata : Bytes} (h : pipeScreen P S bpp pri s = .next t)
    (hout : t.outbox = s.outbox ++ [.ok a, .ok b, .ok c, .ok (.bytes tiledata), .ok (.bytes mapdata)]) :
    ∃ u, ScreenPass P S bpp pri tiledata mapdata u := by
  obtain ⟨v1, s1, hpal, hout1, h⟩ := andThen_exec_next h (by simp [hout])
  obtain ⟨v2, s2, hxscr, hout2, h⟩ := andThen_exec_next h (by simp [hout, hout1])
  obtain ⟨hS, rfl, hpt⟩ := execXscr_ok hxscr hout2
  obtain ⟨v3, s3, hconv, hout3, h⟩ := andThen_exec_next h (by simp [hout, hout1, hout2])
  obtain ⟨v4, s4, hpack, hout4, h⟩ := andThen_exec_next h (by simp [hout, hout1, hout2, hout3])
  obtain ⟨⟨r5, hout5⟩, -⟩ := operationsTouchOnlyTheirStores _ s4 t h
  obtain ⟨-, -, -, rfl, rfl⟩ : v1 = a ∧ .tiles8 (screenOrderTiles S) = b ∧ v3 = c ∧ v4 = .bytes tiledata ∧
      r5 = .ok (.bytes mapdata) := by
    simpa [hout1, hout2, hout3, hout4, hout5] using hout
  obtain ⟨hP, hW, h1, h8, htable⟩ := execPalbuild_ok hpal hout1
  obtain ⟨hpass, hentries⟩ := execConvert_ok hconv hout3
  obtain ⟨hpacked, htm⟩ := execPack_ok hpack hout4
  exact ⟨s3, hP, hW, h1, h8, hS, hpass, htable ▸ hpt ▸ hentries, hpacked, htm ▸ execTmser_ok h hout5⟩

theorem forall₂_getElem? {α β : Type} {R : α → β → Prop} {l : List α} {l' : List β} (h : List.Forall₂ R l l')
    {n : Nat} {b : β} (hb : l'[n]? = some b) : ∃ a, l[n]? = some a ∧ R a b := by
  obtain ⟨hn, rfl⟩ := List.getElem?_eq_some_iff.mp hb
  have hn' : n < l.length := h.length_eq ▸ hn
  exact ⟨l[n], List.getElem?_eq_getElem hn', h.get hn' hn⟩

/-- Every pixel of a small tile the pass extracted is drawn by the bytes alone. -/
theorem ScreenPass.draws {P S : Surface} {bpp : Nat} {pri : Bool} {tiledata mapdata : Bytes} {u : State}
    (hu : ScreenPass P S bpp pri tiledata mapdata u) {n x0 y0 : Nat}
    (htile : (screenOrderTiles S)[n]? = some (extractSmall S x0 y0)) (hx0 : x0 + 8 ≤ S.W) (hy0 : y0 + 8 ≤ S.H)
    {x y : Nat} (hx : x < 8) (hy : y < 8) :
    ∃ (e : TmEntry) (i : Index) (color : HwColor), readEntry mapdata n = some (e, pri) ∧
      (mirror e.hflip e.vflip (readTile tiledata bpp e.tileId.toNat))[8 * y + x]? = some i ∧ i.toNat < 2 ^ bpp ∧
      pixelColor S (x0 + x) (y0 + y) = some color ∧
      pixelColor P ((e.paletteId.toNat * 2 ^ bpp + i.toNat) % 16)
        ((e.paletteId.toNat * 2 ^ bpp + i.toNat) / 16) = some color := by
  obtain ⟨e, he, hreproduces⟩ := forall₂_getElem? hu.entries htile
  obtain ⟨p, m, hp, hm, hcov, hmap⟩ := hreproduces.palette
  have hpow : 2 ^ bpp ≤ 256 := Nat.pow_le_pow_right (n := 2) (by decide) hu.depth_le
  have hsize : p.length = 64 := hu.pass.sizes p (List.mem_of_getElem? hp)
  have hfit : ∀ i ∈ p, i.toNat < 2 ^ bpp := fun i hi => by
    obtain ⟨color, -, hcolor⟩ := List.mem_filterMap.mp (hmap ▸ mem_mirror hsize e.hflip e.vflip hi)
    exact (getElem?_of_groupPalettes hpow hm hcolor).1
  have hread : readTile tiledata bpp e.tileId.toNat = p :=
    hu.packed ▸ readTile_packed hu.depth_pos hu.depth_le hp hsize hfit
  obtain ⟨color, hpixel⟩ := Option.isSome_iff_exists.mp
    (pixelColor_isSome hu.surface (show x0 + x < S.W by omega) (show y0 + y < S.H by omega))
  have hcolor : (extractSmall S x0 y0)[8 * y + x]? = some color :=
    (extractBlock_getElem? hu.surface hx0 hy0 hx hy).trans hpixel
  obtain ⟨i, hi⟩ := (inDom_iff color m).mp (List.all_eq_true.mp hcov color (List.mem_of_getElem? hcolor))
  have hindex : (mirror e.hflip e.vflip p)[8 * y + x]? = some i := by
    rw [← hmap, mapTile_getElem? m _ hcov, hcolor, Option.bind_some, hi]
  obtain ⟨hlt, hslot⟩ := getElem?_of_groupPalettes hpow hm hi
  have himage := pixelColor_of_scanColors hu.image hslot
  rw [hu.width] at himage
  exact ⟨e, i, color, hu.serialized ▸ readEntry_tmCombined he pri, hread ▸ hindex, hlt, hpixel, himage⟩

/-- Settles O51: a whole pass draws each of its tiles, and the tile at a screen position is the one at its index in
screen-block order. -/
theorem theBytesDrawTheImage : Obligations.TheBytesDrawTheImage := by
  unfold Obligations.TheBytesDrawTheImage
  intro P S bpp pri s t a b c tiledata mapdata h hout sx sy tx ty x y hsx hsy htx hty hx hy
  obtain ⟨u, hu⟩ := pipeScreen_pass h hout
  exact hu.draws (screenOrderTiles_getElem? S hsx hsy htx hty) (by omega) (by omega) hx hy

end Sys2Proof.Machine
end

section
/-! PROOFS. The colour QUANT delivers, as a number, and what the quantizer forgets (40_quantizer.md). -/

namespace Sys2Proof.Machine

open Sys2Proof

/-! ## A colour is three digits of base 32 (R17, R61) -/

/-- Bits written side by side are digits: the high part counts multiples of `2 ^ n`. -/
theorem toNat_append_eq_add {m n : Nat} (hi : BitVec m) (lo : BitVec n) :
    (hi ++ lo).toNat = hi.toNat * 2 ^ n + lo.toNat := by
  rw [BitVec.toNat_append, ← Nat.shiftLeft_add_eq_or_of_lt lo.isLt, Nat.shiftLeft_eq]

theorem toNat_colorBits (b5 g5 r5 : BitVec 5) :
    (colorBits b5 g5 r5).toNat = b5.toNat * 1024 + g5.toNat * 32 + r5.toNat := by
  rw [colorBits, toNat_append_eq_add, toNat_append_eq_add]
  omega

/-- The five bits kept of a channel are its quotient by 8. -/
theorem toNat_channel_topFive (c : Byte) : ((c >>> 3).setWidth 5).toNat = c.toNat / 8 := by
  rw [BitVec.toNat_setWidth, BitVec.toNat_ushiftRight, Nat.shiftRight_eq_div_pow]
  omega

theorem toNat_quantize (p : RGB) :
    (quantize p).toNat = p.b.toNat / 8 * 1024 + p.g.toNat / 8 * 32 + p.r.toNat / 8 := by
  simp only [quantize_eq_colorBits, toNat_colorBits, toNat_channel_topFive]

/-- Settles O7. -/
theorem quantPacksTheTopFiveBits : Obligations.QuantPacksTheTopFiveBits := by
  unfold Obligations.QuantPacksTheTopFiveBits
  intro r g b s
  have hdelivers : exec (.quant r g b) s = .next (s.deliver (.ok (.color (quantize ⟨r, g, b⟩)))) := rfl
  exact ⟨quantize ⟨r, g, b⟩, hdelivers, toNat_quantize ⟨r, g, b⟩⟩

/-! ## What the quantizer forgets (R62) -/

/-- The digits of a colour are determined by it, so two triples have one colour only if they have the same digits. -/
theorem quantize_eq_iff (p q : RGB) : quantize p = quantize q ↔
    p.r.toNat / 8 = q.r.toNat / 8 ∧ p.g.toNat / 8 = q.g.toNat / 8 ∧ p.b.toNat / 8 = q.b.toNat / 8 := by
  rw [← BitVec.toNat_inj, toNat_quantize, toNat_quantize]
  omega

theorem or_seven_div_eight (c : Byte) : (c ||| 7).toNat / 8 = c.toNat / 8 :=
  calc (c ||| 7).toNat / 8
    _ = (c.toNat ||| 7) / 2 ^ 3 := rfl
    _ = c.toNat / 2 ^ 3 ||| 7 / 2 ^ 3 := Nat.or_div_two_pow
    _ = c.toNat / 8 := Nat.or_zero _

/-- The mask `0xF8` is `31` above the low three bits, and the quotient by 8 is below 32. -/
theorem and_highFive_div_eight (c : Byte) : (c &&& 0xF8).toNat / 8 = c.toNat / 8 :=
  calc (c &&& 0xF8).toNat / 8
    _ = (c.toNat &&& 0xF8) / 2 ^ 3 := rfl
    _ = c.toNat / 2 ^ 3 &&& (2 ^ 5 - 1) := Nat.and_div_two_pow
    _ = c.toNat / 2 ^ 3 % 2 ^ 5 := Nat.and_two_pow_sub_one_eq_mod _ _
    _ = c.toNat / 8 := by omega

/-- Every five-bit digit is the quotient of some channel. -/
theorem exists_channel_div_eight {d : Nat} (hd : d < 32) : ∃ c : Byte, c.toNat / 8 = d :=
  ⟨BitVec.ofNat 8 (8 * d), by rw [BitVec.toNat_ofNat]; omega⟩

theorem exists_quantize_eq (c : HwColor) : ∃ p : RGB, quantize p = c := by
  have hc := c.isLt
  obtain ⟨b, hb⟩ := exists_channel_div_eight (show c.toNat / 1024 < 32 by omega)
  obtain ⟨g, hg⟩ := exists_channel_div_eight (show c.toNat / 32 % 32 < 32 by omega)
  obtain ⟨r, hr⟩ := exists_channel_div_eight (show c.toNat % 32 < 32 by omega)
  refine ⟨⟨r, g, b⟩, BitVec.eq_of_toNat_eq ?_⟩
  rw [toNat_quantize, hb, hg, hr]
  omega

/-- Settles O8: setting or clearing the low bits of a channel keeps its quotient by 8, and a colour is the three
quotients. -/
theorem quantizeForgetsExactlyTheLowBits : Obligations.QuantizeForgetsExactlyTheLowBits := by
  unfold Obligations.QuantizeForgetsExactlyTheLowBits
  refine ⟨fun r g b => ?setLow, fun r g b => ?clearLow, quantize_eq_iff, exists_quantize_eq⟩
  case setLow => simp only [quantize_eq_iff, or_seven_div_eight, and_self]
  case clearLow => simp only [quantize_eq_iff, and_highFive_div_eight, and_self]

end Sys2Proof.Machine
end

section
/-! PROOFS. Tiles cut from a surface, and the operations that cut them (R63 to R71). -/

namespace Sys2Proof.Machine

open Sys2Proof

/-! ## The block at a position (R64, R65) -/

/-- A colour stands in a block exactly if it is that of one of the block's pixels. -/
theorem mem_extractBlock {S : Surface} {n x0 y0 : Nat} {c : HwColor} :
    c ∈ extractBlock S n x0 y0 ↔ ∃ x y, x < n ∧ y < n ∧ pixelColor S (x0 + x) (y0 + y) = some c := by
  simp only [extractBlock, List.mem_filterMap, mem_blockCoords, Prod.exists, and_assoc, pixelColor]

/-- The tile of column `tx` and row `ty` ends inside the surface. -/
theorem tile_end_le {n k w : Nat} (hk : k < w / n) : n * k + n ≤ w :=
  (Nat.mul_le_mul_left n hk).trans (Nat.mul_div_le w n)

section
variable {S : Surface} (hS : S.ok = true) {n x0 y0 : Nat}
include hS

theorem extractBlock_length (hx0 : x0 + n ≤ S.W) (hy0 : y0 + n ≤ S.H) :
    (extractBlock S n x0 y0).length = n * n := by
  rw [← blockCoords_length n n]
  refine List.filterMap_length_eq_length.mpr fun c hc => ?_
  obtain ⟨hcx, hcy⟩ := (mem_blockCoords n n c).mp hc
  exact pixelColor_isSome hS (by omega) (by omega)

theorem extractBlock_isBlock (hx0 : x0 + n ≤ S.W) (hy0 : y0 + n ≤ S.H) :
    IsBlock S n x0 y0 (extractBlock S n x0 y0) := by
  refine ⟨extractBlock_length hS hx0 hy0, fun x y hx hy => ?_⟩
  obtain ⟨c, hc⟩ := Option.isSome_iff_exists.mp
    (pixelColor_isSome hS (show x0 + x < S.W by omega) (show y0 + y < S.H by omega))
  exact ⟨c, hc, (extractBlock_getElem? hS hx0 hy0 hx hy).trans hc⟩

end

/-! ## Raster order and screen-block order (R66 to R68) -/

theorem rasterTiles_length (n : Nat) (S : Surface) : (rasterTiles n S).length = S.W / n * (S.H / n) := by
  rw [rasterTiles, List.length_map, blockCoords_length]

theorem rasterTiles_getElem? {n : Nat} {S : Surface} {tx ty : Nat} (htx : tx < S.W / n) (hty : ty < S.H / n) :
    (rasterTiles n S)[ty * (S.W / n) + tx]? = some (extractBlock S n (n * tx) (n * ty)) := by
  rw [rasterTiles, List.getElem?_map, Nat.mul_comm ty, blockCoords_getElem? _ _ tx ty htx hty, Option.map_some]

theorem rasterTiles_isBlock {n : Nat} {S : Surface} (hS : S.ok = true) {tx ty : Nat} (htx : tx < S.W / n)
    (hty : ty < S.H / n) :
    ∃ t, (rasterTiles n S)[ty * (S.W / n) + tx]? = some t ∧ IsBlock S n (n * tx) (n * ty) t :=
  ⟨_, rasterTiles_getElem? htx hty, extractBlock_isBlock hS (tile_end_le htx) (tile_end_le hty)⟩

theorem screenTiles_length (S : Surface) (sx sy : Nat) : (screenTiles S sx sy).length = 1024 := by
  simp [screenTiles]

theorem screenOrderTiles_length (S : Surface) :
    (screenOrderTiles S).length = 1024 * (S.W / 256 * (S.H / 256)) := by
  simp only [screenOrderTiles, List.length_flatMap, screenTiles_length, List.map_const', List.sum_replicate_nat,
    blockCoords_length, Nat.mul_comm]

/-- A surface one screen wide has its screens one below the other, each 32 rows of 32 tiles: its tiles in
screen-block order are those in raster order (R68). -/
theorem screenOrderTiles_eq_rasterTiles {S : Surface} (hW : S.W = 256) (hH : S.H % 256 = 0) :
    screenOrderTiles S = rasterTiles 8 S := by
  have hscreen := screenOrderTiles_length S
  have hraster := rasterTiles_length 8 S
  rw [hW] at hscreen hraster
  refine List.ext_getElem? fun i => ?_
  by_cases hi : i < 1024 * (S.H / 256)
  · have hleft := screenOrderTiles_getElem? S (sx := 0) (sy := i / 1024) (tx := i % 32) (ty := i / 32 % 32)
      (by omega) (by omega) (by omega) (by omega)
    have hright := rasterTiles_getElem? (n := 8) (S := S) (tx := i % 32) (ty := i / 32) (by omega) (by omega)
    rw [hW] at hleft hright
    rw [show 1024 * (i / 1024 * (256 / 256) + 0) + 32 * (i / 32 % 32) + i % 32 = i by omega,
      show 256 * 0 + 8 * (i % 32) = 8 * (i % 32) by omega,
      show 256 * (i / 1024) + 8 * (i / 32 % 32) = 8 * (i / 32) by omega] at hleft
    rw [show i / 32 * (256 / 8) + i % 32 = i by omega] at hright
    exact hleft.trans hright.symm
  · rw [List.getElem?_eq_none (by omega), List.getElem?_eq_none (by omega)]

/-! ## The slicing operations -/

theorem withOperands_of_inRange (mn : String) {inRange : Bool} (h : inRange = true)
    (run : Host.Outcome State Fault Refusal) : withOperands mn inRange run = run := by
  rw [h, withOperands_true]

section
variable {S : Surface} (hS : S.ok = true) (s : State)
include hS

theorem exec_xlin8 : exec (.xlin8 S) s = if S.W % 8 ≠ 0 ∨ S.H % 8 ≠ 0 then raise .validation (.failed .size) s
    else succeed (.tiles8 (rasterTiles 8 S)) s :=
  withOperands_of_inRange _ hS _

theorem exec_xlin16 : exec (.xlin16 S) s = if S.W % 16 ≠ 0 ∨ S.H % 16 ≠ 0 then raise .validation (.failed .size) s
    else succeed (.tiles16 (rasterTiles 16 S)) s :=
  withOperands_of_inRange _ hS _

/-- The two size checks of XSCR raise one error, so they are one check. -/
theorem exec_xscr : exec (.xscr S) s =
    if S.W % 256 ≠ 0 ∨ S.H % 256 ≠ 0 ∨ 512 < S.W ∨ 512 < S.H then raise .validation (.failed .size) s
    else succeed (.tiles8 (screenOrderTiles S)) s := by
  refine (withOperands_of_inRange _ hS _).trans ?_
  simp only [← or_assoc (a := S.W % 256 ≠ 0), ite_or, gt_iff_lt]

end

/-- Settles O9. -/
theorem xlin8SlicesInRasterOrder : Obligations.Xlin8SlicesInRasterOrder := by
  unfold Obligations.Xlin8SlicesInRasterOrder
  intro S s hS
  rw [exec_xlin8 hS]
  exact ⟨fun hW hH => ⟨rasterTiles 8 S, if_neg (by omega), rasterTiles_length 8 S,
      fun _ _ => rasterTiles_isBlock hS⟩,
    fun hsize => ⟨_, if_pos hsize⟩⟩

/-- Settles O10. -/
theorem xlin16SlicesInRasterOrder : Obligations.Xlin16SlicesInRasterOrder := by
  unfold Obligations.Xlin16SlicesInRasterOrder
  intro S s hS
  rw [exec_xlin16 hS]
  exact ⟨fun hW hH => ⟨rasterTiles 16 S, if_neg (by omega), rasterTiles_length 16 S,
      fun _ _ => rasterTiles_isBlock hS⟩,
    fun hsize => ⟨_, if_pos hsize⟩⟩

/-- Settles O11. -/
theorem xscrSlicesInScreenBlockOrder : Obligations.XscrSlicesInScreenBlockOrder := by
  unfold Obligations.XscrSlicesInScreenBlockOrder
  intro S s hS
  rw [exec_xscr hS]
  refine ⟨fun hW hH hW' hH' => ⟨screenOrderTiles S, if_neg (by omega), screenOrderTiles_length S, ?tiles⟩,
    fun hsize => ⟨_, if_pos hsize⟩⟩
  case tiles =>
    intro sx sy tx ty hsx hsy htx hty
    exact ⟨_, screenOrderTiles_getElem? S hsx hsy htx hty, extractBlock_isBlock hS (by omega) (by omega)⟩

/-- Settles O12: both operations accept the size, and the two orders are one. -/
theorem xscrIsXlin8OnOneScreenColumn : Obligations.XscrIsXlin8OnOneScreenColumn := by
  unfold Obligations.XscrIsXlin8OnOneScreenColumn
  intro S s hS hW hH hH'
  rw [exec_xscr hS, exec_xlin8 hS, if_neg (by omega), if_neg (by omega), screenOrderTiles_eq_rasterTiles hW hH]
  exact ⟨⟨_, rfl⟩, rfl⟩

/-! ## The operations on one block (R69 to R71) -/

section
variable {S : Surface} {x0 y0 n : Nat} (mn : String) (s : State) (run : Host.Outcome State Fault Refusal)

theorem withBlock_of_aligned (hin : x0 + n ≤ S.W ∧ y0 + n ≤ S.H) (haligned : x0 % n = 0 ∧ y0 % n = 0) :
    withBlock mn S x0 y0 n s run = run := by
  rw [withBlock, if_pos ((inBounds_iff S x0 y0 n).mpr hin), if_pos haligned]

theorem withBlock_of_outside (hout : ¬ (x0 + n ≤ S.W ∧ y0 + n ≤ S.H)) :
    withBlock mn S x0 y0 n s run = raise .validation (.failed .position) s := by
  rw [withBlock, if_neg (mt (inBounds_iff S x0 y0 n).mp hout)]

theorem withBlock_of_unaligned (hin : x0 + n ≤ S.W ∧ y0 + n ≤ S.H) (hunaligned : ¬ (x0 % n = 0 ∧ y0 % n = 0)) :
    withBlock mn S x0 y0 n s run = .refused (.unalignedPosition mn) := by
  rw [withBlock, if_pos ((inBounds_iff S x0 y0 n).mpr hin), if_neg hunaligned]

end

section
variable {S : Surface} (hS : S.ok = true) (x0 y0 : Nat) (s : State)
include hS

theorem exec_tprobe (t : HwColor) : exec (.tprobe S t x0 y0) s = withBlock "TPROBE" S x0 y0 8 s
    (succeed (.bool ((extractSmall S x0 y0).any (fun c => c != t))) s) :=
  withOperands_of_inRange _ hS _

theorem exec_xlarge : exec (.xlarge S x0 y0) s = withBlock "XLARGE" S x0 y0 16 s
    (succeed (.tile16 (extractLarge S x0 y0)) s) :=
  withOperands_of_inRange _ hS _

end

/-- Some colour of the block differs from `t` exactly if some pixel's does. -/
theorem any_extractSmall_ne_iff {S : Surface} {x0 y0 : Nat} {t : HwColor} :
    (extractSmall S x0 y0).any (fun c => c != t) = true ↔
      ∃ x y c, x < 8 ∧ y < 8 ∧ pixelColor S (x0 + x) (y0 + y) = some c ∧ c ≠ t := by
  simp only [List.any_eq_true, bne_iff_ne, extractSmall, mem_extractBlock]
  constructor
  · rintro ⟨c, ⟨x, y, hx, hy, hc⟩, hne⟩
    exact ⟨x, y, c, hx, hy, hc, hne⟩
  · rintro ⟨x, y, c, hx, hy, hc, hne⟩
    exact ⟨c, ⟨x, y, hx, hy, hc⟩, hne⟩

/-- Settles O13. -/
theorem tprobeFindsAPixelThatDiffers : Obligations.TprobeFindsAPixelThatDiffers := by
  unfold Obligations.TprobeFindsAPixelThatDiffers
  intro S t x0 y0 s hS
  rw [exec_tprobe hS]
  exact ⟨fun hin haligned => ⟨_, withBlock_of_aligned _ s _ hin haligned, any_extractSmall_ne_iff⟩,
    fun hout => ⟨_, withBlock_of_outside _ s _ hout⟩, withBlock_of_unaligned _ s _⟩

/-- Settles O14. -/
theorem xlargeExtractsTheBlock : Obligations.XlargeExtractsTheBlock := by
  unfold Obligations.XlargeExtractsTheBlock
  intro S x0 y0 s hS
  rw [exec_xlarge hS]
  exact ⟨fun hin haligned =>
      ⟨_, withBlock_of_aligned _ s _ hin haligned, extractBlock_isBlock hS hin.1 hin.2⟩,
    fun hout => ⟨_, withBlock_of_outside _ s _ hout⟩, withBlock_of_unaligned _ s _⟩

end Sys2Proof.Machine
end

section
/-! PROOFS. Large tiles: the two mirrors and the four quadrants (R72, R74 to R76). -/

namespace Sys2Proof.Machine

open Sys2Proof

/-! ## Mirrors of a square block -/

section
variable {α : Type} {n : Nat}

/-- Two square blocks that agree at every column of every row are one. -/
theorem block_ext {a b : List α} (ha : a.length = n * n) (hb : b.length = n * n)
    (h : ∀ x y, x < n → y < n → a[n * y + x]? = b[n * y + x]?) : a = b := by
  refine List.ext_getElem? fun i => ?_
  by_cases hi : i < n * n
  · have hrow : i / n < n := Nat.div_lt_of_lt_mul hi
    have hcol : i % n < n := Nat.mod_lt i (Nat.zero_lt_of_lt hrow)
    have hat := h (i % n) (i / n) hcol hrow
    rwa [Nat.div_add_mod] at hat
  · rw [List.getElem?_eq_none (by omega), List.getElem?_eq_none (by omega)]

variable {t : List α} (ht : t.length = n * n)
include ht

theorem hflipBlock_hflipBlock : hflipBlock n (hflipBlock n t) = t := by
  have hlen := hflipBlock_length ht
  refine block_ext (hflipBlock_length hlen) ht fun x y hx hy => ?_
  rw [hflipBlock_getElem? hlen hx hy, hflipBlock_getElem? ht (by omega) hy, show n - 1 - (n - 1 - x) = x by omega]

theorem vflipBlock_vflipBlock : vflipBlock n (vflipBlock n t) = t := by
  have hlen := vflipBlock_length ht
  refine block_ext (vflipBlock_length hlen) ht fun x y hx hy => ?_
  rw [vflipBlock_getElem? hlen hx hy, vflipBlock_getElem? ht hx (by omega), show n - 1 - (n - 1 - y) = y by omega]

/-- One mirror moves the columns and the other the rows, so they commute. -/
theorem vflipBlock_hflipBlock : vflipBlock n (hflipBlock n t) = hflipBlock n (vflipBlock n t) := by
  have hh := hflipBlock_length ht
  have hv := vflipBlock_length ht
  refine block_ext (vflipBlock_length hh) (hflipBlock_length hv) fun x y hx hy => ?_
  rw [vflipBlock_getElem? hh hx hy, hflipBlock_getElem? ht hx (by omega), hflipBlock_getElem? hv hx hy,
    vflipBlock_getElem? ht (by omega) hy]

end

/-! ## Quadrants and mirrors of a large tile -/

section
variable {α : Type} {t : List α} (ht : t.length = 256)
include ht

theorem hflip16_length : (hflip16 t).length = 256 := hflipBlock_length (n := 16) ht

theorem vflip16_length : (vflip16 t).length = 256 := vflipBlock_length (n := 16) ht

theorem hflip16_getElem? {x y : Nat} (hx : x < 16) (hy : y < 16) :
    (hflip16 t)[16 * y + x]? = t[16 * y + (15 - x)]? :=
  hflipBlock_getElem? (n := 16) ht hx hy

theorem vflip16_getElem? {x y : Nat} (hx : x < 16) (hy : y < 16) :
    (vflip16 t)[16 * y + x]? = t[16 * (15 - y) + x]? :=
  vflipBlock_getElem? (n := 16) ht hx hy

variable {qx qy : Nat} (hqx : qx < 2) (hqy : qy < 2)
include hqx hqy

theorem quad_index_lt : ∀ c ∈ blockCoords 8 8, 16 * (8 * qy + c.2) + (8 * qx + c.1) < t.length := by
  intro c hc
  obtain ⟨hx, hy⟩ := (mem_blockCoords 8 8 c).mp hc
  omega

theorem quad_length : (quad t qx qy).length = 64 := pick_block_length 8 t _ (quad_index_lt ht hqx hqy)

theorem quad_getElem? {x y : Nat} (hx : x < 8) (hy : y < 8) :
    (quad t qx qy)[8 * y + x]? = t[16 * (8 * qy + y) + (8 * qx + x)]? :=
  pick_block_getElem? 8 t _ (quad_index_lt ht hqx hqy) hx hy

/-- Column `x` of quadrant column `qx` is opposite to column `7 - x` of quadrant column `1 - qx` (R76). -/
theorem quad_hflip16 : quad (hflip16 t) qx qy = hflip8 (quad t (1 - qx) qy) := by
  have hqx' : 1 - qx < 2 := by omega
  have hh := hflip16_length ht
  have hq := quad_length ht hqx' hqy
  refine tile_ext (quad_length hh hqx hqy) (hflip8_length hq) fun x y hx hy => ?_
  rw [quad_getElem? hh hqx hqy hx hy, hflip16_getElem? ht (by omega) (by omega), hflip8_getElem? hq hx hy,
    quad_getElem? ht hqx' hqy (by omega) hy, show 15 - (8 * qx + x) = 8 * (1 - qx) + (7 - x) by omega]

/-- The same for the rows (R76). -/
theorem quad_vflip16 : quad (vflip16 t) qx qy = vflip8 (quad t qx (1 - qy)) := by
  have hqy' : 1 - qy < 2 := by omega
  have hv := vflip16_length ht
  have hq := quad_length ht hqx hqy'
  refine tile_ext (quad_length hv hqx hqy) (vflip8_length hq) fun x y hx hy => ?_
  rw [quad_getElem? hv hqx hqy hx hy, vflip16_getElem? ht (by omega) (by omega), vflip8_getElem? hq hx hy,
    quad_getElem? ht hqx hqy' hx (by omega), show 15 - (8 * qy + y) = 8 * (1 - qy) + (7 - y) by omega]

end

/-- A quadrant of an extracted large tile is the small tile extracted at its own position (R72). -/
theorem quad_extractLarge {S : Surface} (hS : S.ok = true) {x0 y0 qx qy : Nat} (hx0 : x0 + 16 ≤ S.W)
    (hy0 : y0 + 16 ≤ S.H) (hqx : qx < 2) (hqy : qy < 2) :
    quad (extractLarge S x0 y0) qx qy = extractSmall S (x0 + 8 * qx) (y0 + 8 * qy) := by
  have hlarge : (extractLarge S x0 y0).length = 256 := extractBlock_length hS hx0 hy0
  have hx1 : x0 + 8 * qx + 8 ≤ S.W := by omega
  have hy1 : y0 + 8 * qy + 8 ≤ S.H := by omega
  refine tile_ext (quad_length hlarge hqx hqy) (extractBlock_length hS hx1 hy1) fun x y hx hy => ?_
  rw [quad_getElem? hlarge hqx hqy hx hy, extractLarge, extractBlock_getElem? hS hx0 hy0 (by omega) (by omega),
    extractSmall, extractBlock_getElem? hS hx1 hy1 hx hy, Nat.add_assoc, Nat.add_assoc]

/-! ## The operations on a large tile -/

theorem tile16Ok_of_length {t : Tile16} (ht : t.length = 256) : tile16Ok t = true := beq_iff_eq.mpr ht

/-- Settles O15. -/
theorem split16GivesTheFourQuadrants : Obligations.Split16GivesTheFourQuadrants := by
  unfold Obligations.Split16GivesTheFourQuadrants
  intro t s ht
  refine ⟨quad t 0 0, quad t 1 0, quad t 0 1, quad t 1 1, withOperands_of_inRange _ (tile16Ok_of_length ht) _,
    quad_length ht (by decide) (by decide), quad_length ht (by decide) (by decide),
    quad_length ht (by decide) (by decide), quad_length ht (by decide) (by decide), fun x y hx hy => ?elements⟩
  case elements =>
    rw [quad_getElem? ht (by decide) (by decide) hx hy, quad_getElem? ht (by decide) (by decide) hx hy,
      quad_getElem? ht (by decide) (by decide) hx hy, quad_getElem? ht (by decide) (by decide) hx hy]
    simp only [Nat.mul_zero, Nat.mul_one, Nat.zero_add, and_self]

/-- Settles O16. -/
theorem largeMirrorsReverseColumnsOrRows : Obligations.LargeMirrorsReverseColumnsOrRows := by
  unfold Obligations.LargeMirrorsReverseColumnsOrRows
  intro t s ht
  have hok := tile16Ok_of_length ht
  exact ⟨hflip16 t, vflip16 t, withOperands_of_inRange _ hok _, withOperands_of_inRange _ hok _,
    hflip16_length ht, vflip16_length ht, fun x y hx hy => ⟨hflip16_getElem? ht hx hy, vflip16_getElem? ht hx hy⟩⟩

/-- Settles O17: the laws of the mirrors of a square block at side 16, and the two swaps at each quadrant. -/
theorem largeMirrorsAndTheSplit : Obligations.LargeMirrorsAndTheSplit := by
  unfold Obligations.LargeMirrorsAndTheSplit
  intro t ht
  have hswap {qx qy : Nat} (hqx : qx < 2) (hqy : qy < 2) := quad_hflip16 ht hqx hqy
  have vswap {qx qy : Nat} (hqx : qx < 2) (hqy : qy < 2) := quad_vflip16 ht hqx hqy
  exact ⟨hflipBlock_hflipBlock (n := 16) ht, vflipBlock_vflipBlock (n := 16) ht, vflipBlock_hflipBlock (n := 16) ht,
    hswap (by decide) (by decide), hswap (by decide) (by decide), hswap (by decide) (by decide),
    hswap (by decide) (by decide), vswap (by decide) (by decide), vswap (by decide) (by decide),
    vswap (by decide) (by decide), vswap (by decide) (by decide)⟩

/-- Settles O18. -/
theorem quadrantsOfAnExtractedTile : Obligations.QuadrantsOfAnExtractedTile := by
  unfold Obligations.QuadrantsOfAnExtractedTile
  intro S x0 y0 qx qy hS hx0 hy0 hqx hqy
  exact quad_extractLarge hS hx0 hy0 hqx hqy

end Sys2Proof.Machine
end

section
/-! PROOFS. The palettes PALBUILD makes of an image, and the colours PALRAW emits (42_palette.md). -/

namespace Sys2Proof.Machine

open Sys2Proof

/-! ## The colours of an image in scan order (R80) -/

section
variable {P : Surface} (hP : P.ok = true)
include hP

theorem length_scanColors : (scanColors P).length = P.W * P.H := by
  rw [← blockCoords_length P.W P.H]
  refine List.filterMap_length_eq_length.mpr fun c hc => ?_
  obtain ⟨hcx, hcy⟩ := (mem_blockCoords P.W P.H c).mp hc
  exact pixelColor_isSome hP hcx hcy

/-- Position `k` of the scan is column `k % W` of row `k / W`, also past the last pixel, where neither has a
colour. -/
theorem scanColors_getElem? (hW : 0 < P.W) (k : Nat) : (scanColors P)[k]? = pixelColor P (k % P.W) (k / P.W) := by
  cases hk : (scanColors P)[k]? with
  | some c => exact (pixelColor_of_scanColors hP hk).symm
  | none =>
    have hlen : P.W * P.H ≤ k := length_scanColors hP ▸ List.getElem?_eq_none_iff.mp hk
    have hrow : P.H ≤ k / P.W := (Nat.le_div_iff_mul_le hW).mpr (Nat.mul_comm P.W P.H ▸ hlen)
    rw [pixelColor, surfRead_none P _ _ fun hin => Nat.not_lt.mpr hrow hin.2, Option.map_none]

/-- The scan of one row is the row. -/
theorem filterMap_pixelColor_row {y : Nat} {row : List RGB} (hrow : P.rows[y]? = some row) :
    (List.range P.W).filterMap (fun x => pixelColor P x y) = row.map quantize := by
  simp only [Surface.ok, Bool.and_eq_true, beq_iff_eq, List.all_eq_true] at hP
  obtain ⟨hH, hrows⟩ := hP
  have hy : y < P.H := hH ▸ (List.getElem?_eq_some_iff.mp hrow).1
  have hwidth : row.length = P.W := hrows row (List.mem_of_getElem? hrow)
  have hread : ∀ x ∈ List.range P.W, pixelColor P x y = some (quantize (row.getD x ⟨0, 0, 0⟩)) := fun x hx => by
    have hx : x < row.length := hwidth ▸ List.mem_range.mp hx
    simp [pixelColor, surfRead, hrow, hy, ← hwidth, hx]
  rw [filterMap_eq_map_of_some _ _ _ hread, ← hwidth]
  refine List.ext_getElem (by simp) fun x _ hx => ?_
  rw [List.length_map] at hx
  simp [hx]

/-- The scan is the rows one after the other, quantized. -/
theorem scanColors_eq_map_flatten : scanColors P = P.rows.flatten.map quantize := by
  have hH : P.rows.length = P.H := by
    simp only [Surface.ok, Bool.and_eq_true, beq_iff_eq] at hP
    exact hP.1
  have hrows : (List.range P.H).map (fun y => (List.range P.W).filterMap (fun x => pixelColor P x y))
      = P.rows.map (List.map quantize) := by
    rw [← hH]
    refine List.ext_getElem (by simp) fun y _ hy => ?_
    rw [List.getElem_map, List.getElem_map, List.getElem_range]
    exact filterMap_pixelColor_row hP (List.getElem?_eq_getElem _)
  rw [List.map_flatten, ← hrows, scanColors, blockCoords, List.filterMap_flatMap, List.flatMap_def]
  simp only [List.filterMap_map]
  rfl

end

/-! ## The index of a colour is its first offset in the group (R81) -/

/-- A colour the palette has keeps its index; a new one gets the offset of its first occurrence. -/
theorem mapLookup_buildPalette_eq (cs : List HwColor) (n : Nat) (m : Palette) (c : HwColor) :
    mapLookup c (buildPalette cs n m) =
      (mapLookup c m).or ((cs.idxOf? c).map (fun k => BitVec.ofNat 8 (n + k))) := by
  induction cs generalizing n m with
  | nil => simp [buildPalette]
  | cons d cs ih =>
    rw [buildPalette, ih, mapLookup_insertNew, List.idxOf?_cons]
    by_cases hdc : d = c
    · subst hdc
      cases mapLookup d m <;> simp
    · have hcd : c ≠ d := Ne.symm hdc
      simp [hdc, hcd, Function.comp_def, Nat.add_assoc, Nat.add_comm 1]

/-- The first position of an element, by what is read at the positions up to it. -/
theorem idxOf?_eq_some_iff_getElem? {cs : List HwColor} {c : HwColor} {k : Nat} :
    cs.idxOf? c = some k ↔ cs[k]? = some c ∧ ∀ j, j < k → cs[j]? ≠ some c := by
  rw [List.idxOf?_eq_some_iff]
  constructor
  · rintro ⟨hk, hget, hfirst⟩
    refine ⟨List.getElem?_eq_some_iff.mpr ⟨hk, hget⟩, fun j hj hc => hfirst j hj ?_⟩
    exact (List.getElem?_eq_some_iff.mp hc).2
  · rintro ⟨hget, hfirst⟩
    obtain ⟨hk, hget⟩ := List.getElem?_eq_some_iff.mp hget
    exact ⟨hk, hget, fun j hj hc => hfirst j hj (List.getElem?_eq_some_iff.mpr ⟨hj.trans hk, hc⟩)⟩

/-- In a group of at most 256 colours the offset of a first occurrence is a byte. -/
theorem mapLookup_buildPalette_iff {cs : List HwColor} (hlen : cs.length ≤ 256) {c : HwColor} {i : Index} :
    mapLookup c (buildPalette cs 0 []) = some i ↔
      cs[i.toNat]? = some c ∧ ∀ j, j < i.toNat → cs[j]? ≠ some c := by
  have hindex : mapLookup c (buildPalette cs 0 []) = some i ↔ cs.idxOf? c = some i.toNat := by
    rw [mapLookup_buildPalette_eq, mapLookup_nil, Option.none_or, Option.map_eq_some_iff]
    constructor
    · rintro ⟨k, hk, rfl⟩
      have hlt : k < cs.length := (List.idxOf?_eq_some_iff.mp hk).1
      rw [hk, BitVec.toNat_ofNat, Nat.zero_add, Nat.mod_eq_of_lt (by omega)]
    · intro hi
      exact ⟨i.toNat, hi, by simp⟩
  rw [hindex, idxOf?_eq_some_iff_getElem?]

section
variable {cols : List HwColor} {n g : Nat} {m : Palette} (hm : (groupPalettes cols n)[g]? = some m)
include hm

theorem eq_buildPalette_of_groupPalettes : m = buildPalette (colorGroup cols n g) 0 [] := by
  rw [groupPalettes, List.getElem?_map, Option.map_eq_some_iff] at hm
  obtain ⟨g', hg, rfl⟩ := hm
  obtain ⟨hlt, hg⟩ := List.getElem?_eq_some_iff.mp hg
  rw [← hg, List.getElem_range]

/-- In palette `g` a colour has the index of its first occurrence among the `n` colours from `g * n` on. -/
theorem mapLookup_groupPalettes_iff (hn : n ≤ 256) {c : HwColor} {i : Index} :
    mapLookup c m = some i ↔
      i.toNat < n ∧ cols[g * n + i.toNat]? = some c ∧ ∀ j, j < i.toNat → cols[g * n + j]? ≠ some c := by
  have hgroup {j : Nat} (hj : j < n) : (colorGroup cols n g)[j]? = cols[g * n + j]? := by
    rw [List.getElem?_take_of_lt hj, List.getElem?_drop]
  have hlen : (colorGroup cols n g).length ≤ n := List.length_take_le _ _
  rw [eq_buildPalette_of_groupPalettes hm, mapLookup_buildPalette_iff (hlen.trans hn)]
  constructor
  · rintro ⟨hget, hfirst⟩
    have hlt : i.toNat < n := (List.getElem?_eq_some_iff.mp hget).1.trans_le hlen
    exact ⟨hlt, hgroup hlt ▸ hget, fun j hj => hgroup (hj.trans hlt) ▸ hfirst j hj⟩
  · rintro ⟨hlt, hget, hfirst⟩
    exact ⟨(hgroup hlt).trans hget, fun j hj => (hgroup (hj.trans hlt)).symm ▸ hfirst j hj⟩

/-- A palette has at most one key for each colour of its group. -/
theorem length_palette_le : m.length ≤ n := by
  rw [eq_buildPalette_of_groupPalettes hm]
  calc (buildPalette (colorGroup cols n g) 0 []).length
      ≤ (colorGroup cols n g).length := by simpa using length_buildPalette_le (colorGroup cols n g) 0 []
    _ ≤ n := List.length_take_le _ _

end

/-! ## PALBUILD (R79) -/

theorem two_pow_bpp_le {bpp : Nat} (h8 : bpp ≤ 8) : 2 ^ bpp ≤ 256 :=
  Nat.pow_le_pow_right (n := 2) (by decide) h8

/-- With operands in range PALBUILD checks the width, then the pixel count, then builds. -/
theorem exec_palbuild {P : Surface} {bpp : Nat} (hP : P.ok = true) (h1 : 1 ≤ bpp) (h8 : bpp ≤ 8) (s : State) :
    exec (.palbuild P bpp) s =
      if P.W ≠ 16 then raise .validation (.failed .imageWidth) s
      else if P.W * P.H > min (2 ^ bpp * 8) 256 then raise .capacity (.failed .colourCount) s
      else succeed (.table (groupPalettes (scanColors P) (2 ^ bpp)))
        { s with pt := groupPalettes (scanColors P) (2 ^ bpp) } :=
  withOperands_of_inRange _ (by simp [hP, bppOk, h1, h8]) _

/-- Settles O19. -/
theorem palbuildGroupsInScanOrder : Obligations.PalbuildGroupsInScanOrder := by
  unfold Obligations.PalbuildGroupsInScanOrder
  intro P bpp s hP h1 h8 hW hlimit
  refine ⟨groupPalettes (scanColors P) (2 ^ bpp), ?run, ?count, fun g m hm c i => ?index⟩
  case run =>
    rw [exec_palbuild hP h1 h8, if_neg (not_not.mpr hW), if_neg (Nat.not_lt.mpr hlimit)]
    rfl
  case count => rw [groupPalettes, List.length_map, List.length_range, groupCount, length_scanColors hP]
  case index =>
    have hscan (k : Nat) : (scanColors P)[k]? = pixelColor P (k % 16) (k / 16) :=
      hW ▸ scanColors_getElem? hP (by omega) k
    simp only [mapLookup_groupPalettes_iff hm (two_pow_bpp_le h8), hscan]

/-- Settles O20. -/
theorem palbuildErrorsLeaveTheTable : Obligations.PalbuildErrorsLeaveTheTable := by
  unfold Obligations.PalbuildErrorsLeaveTheTable
  intro P bpp s hP h1 h8
  rw [exec_palbuild hP h1 h8]
  refine ⟨fun hW => ⟨_, if_pos hW⟩, fun hW hlimit => ⟨.failed .colourCount, ?_⟩⟩
  rw [if_neg (not_not.mpr hW), if_pos hlimit]
  rfl

/-- Settles O21: the table's invariant, and the bounds of each palette. -/
theorem builtTablesAreWellFormed : Obligations.BuiltTablesAreWellFormed := by
  unfold Obligations.BuiltTablesAreWellFormed
  intro P bpp hP h1 h8 hW hlimit
  have hlen := (length_scanColors_le P).trans hlimit
  refine ⟨tableInv_groupPalettes (Nat.two_pow_pos bpp) (two_pow_bpp_le h8) (hlen.trans (Nat.min_le_left _ _))
    (hlen.trans (Nat.min_le_right _ _)), fun m hm => ?_⟩
  obtain ⟨g, hg⟩ := List.getElem?_of_mem hm
  exact ⟨length_palette_le hg, fun c i hi => (getElem?_of_groupPalettes (two_pow_bpp_le h8) hg hi).1⟩

/-! ## Colours as byte pairs, low byte first (R51, R85) -/

/-- The two bytes of a colour are its digits in base 256, and the high one has bit 7 clear (D25). -/
theorem toNat_colorBytes (c : HwColor) :
    (bits c 0 8).toNat + 256 * (bits c 8 8).toNat = c.toNat ∧ (bits c 8 8).toNat < 128 := by
  have hc := c.isLt
  simp only [bits, BitVec.extractLsb'_toNat, Nat.shiftRight_eq_div_pow]
  omega

theorem length_flatMap_colorBytes (cols : List HwColor) : (cols.flatMap colorBytes).length = 2 * cols.length := by
  simp [List.length_flatMap, colorBytes, Nat.mul_comm]

/-- The pair at offset `2 * k` is colour `k`. -/
theorem colorBytes_slot {cols : List HwColor} {k : Nat} {c : HwColor} (hk : cols[k]? = some c) :
    ∃ lo hi : Byte, (cols.flatMap colorBytes)[2 * k]? = some lo ∧ (cols.flatMap colorBytes)[2 * k + 1]? = some hi ∧
      lo.toNat + 256 * hi.toNat = c.toNat ∧ hi.toNat < 128 := by
  have hbyte {j : Nat} (hj : j < 2) : (cols.flatMap colorBytes)[2 * k + j]? = [bits c 0 8, bits c 8 8][j]? := by
    rw [Nat.mul_comm, getElem?_flatMap_chunk (w := 2) (fun _ => rfl) hk hj, colorBytes_eq_bits]
  exact ⟨bits c 0 8, bits c 8 8, hbyte (j := 0) (by decide), hbyte (j := 1) (by decide), toNat_colorBytes c⟩

/-- Settles O22. -/
theorem palrawEmitsLittleEndianColors : Obligations.PalrawEmitsLittleEndianColors := by
  unfold Obligations.PalrawEmitsLittleEndianColors
  intro L s
  refine ⟨fun hfits => ⟨(L.map quantize).flatMap colorBytes, ?run, ?length, fun i p hp => ?slot⟩,
    fun hlong => ⟨_, if_pos hlong⟩⟩
  case run =>
    rw [List.flatMap_map]
    exact if_neg (Nat.not_lt.mpr hfits)
  case length => rw [length_flatMap_colorBytes, List.length_map]
  case slot => exact colorBytes_slot (by rw [List.getElem?_map, hp, Option.map_some])

/-- Settles O23: index `i` of palette `g` is colour `g * 2^bpp + i` of the scan, and that is its slot. -/
theorem paletteIndexIsTheSlotInPalrawOutput : Obligations.PaletteIndexIsTheSlotInPalrawOutput := by
  unfold Obligations.PaletteIndexIsTheSlotInPalrawOutput
  intro P bpp g m c i hP h1 h8 hm hindex
  obtain ⟨-, hscan⟩ := getElem?_of_groupPalettes (two_pow_bpp_le h8) hm hindex
  obtain ⟨lo, hi, hlo, hhi, hvalue, -⟩ := colorBytes_slot hscan
  rw [scanColors_eq_map_flatten hP, List.flatMap_map] at hlo hhi
  exact ⟨lo, hi, hlo, hhi, hvalue⟩

end Sys2Proof.Machine
end

section
/-! PROOFS. The mirrors of a small tile, the choice of its palette, and CONVERT against the mirror classes
(43_dedup.md). -/

namespace Sys2Proof.Machine

open Sys2Proof

/-! ## The laws of the mirrors (R94, R96, R97) -/

section
variable {α β : Type} (f : α → β) (n : Nat) (t : List α)

theorem hflipBlock_map : hflipBlock n (t.map f) = (hflipBlock n t).map f := pick_map f t _

theorem vflipBlock_map : vflipBlock n (t.map f) = (vflipBlock n t).map f := pick_map f t _

end

section
variable {α : Type} {t : List α} (ht : t.length = 64)
include ht

/-- The double mirror takes element `i` to `63 - i`. -/
theorem hvflip8_eq_reverse : hvflip8 t = t.reverse := by
  refine tile_ext (vflip8_length (hflip8_length ht)) (by rw [List.length_reverse, ht]) fun x y hx hy => ?_
  have hreverse : t.reverse[8 * y + x]? = t[8 * (7 - y) + (7 - x)]? := by
    rw [List.getElem?_reverse (by omega)]
    congr 1
    omega
  exact (flipTile_getElem? ht true true hx hy).trans hreverse.symm

theorem flipTile_flipTile (h1 v1 h2 v2 : Bool) :
    flipTile (flipTile t h1 v1) h2 v2 = flipTile t (xor h1 h2) (xor v1 v2) := by
  have hinner := flipTile_length ht h1 v1
  refine tile_ext (flipTile_length hinner h2 v2) (flipTile_length ht _ _) fun x y hx hy => ?_
  rw [flipTile_getElem? hinner h2 v2 hx hy, flipTile_getElem? ht h1 v1 (by split <;> omega) (by split <;> omega),
    flipTile_getElem? ht _ _ hx hy]
  have hinvolutive : ∀ k, k < 8 → ∀ a b : Bool,
      (if a then 7 - (if b then 7 - k else k) else if b then 7 - k else k) = if xor a b then 7 - k else k := by
    decide
  rw [hinvolutive x hx h1 h2, hinvolutive y hy v1 v2]

end

/-- Settles O24. -/
theorem smallMirrorsReverseColumnsOrRows : Obligations.SmallMirrorsReverseColumnsOrRows := by
  unfold Obligations.SmallMirrorsReverseColumnsOrRows
  intro t ht
  exact ⟨hflip8_length ht, vflip8_length ht,
    fun _ _ hx hy => ⟨hflip8_getElem? ht hx hy, vflip8_getElem? ht hx hy⟩,
    fun f => ⟨hflipBlock_map f 8 t, vflipBlock_map f 8 t⟩⟩

/-- Settles O25. -/
theorem flipsComposeByExclusiveOr : Obligations.FlipsComposeByExclusiveOr := by
  unfold Obligations.FlipsComposeByExclusiveOr
  intro t ht
  exact ⟨hvflip8_eq_reverse ht, vflipBlock_hflipBlock (n := 8) ht, flipTile_eq_mirror ht, flipTile_flipTile ht⟩

/-! ## The palette chosen (R93, R99) -/

theorem covers_iff {m : Palette} {t : Tile8} : covers m t = true ↔ ∀ c ∈ t, (mapLookup c m).isSome = true :=
  List.all_eq_true

theorem covers_eq_false_iff {m : Palette} {t : Tile8} : covers m t = false ↔ ∃ c ∈ t, mapLookup c m = none := by
  simp [covers, inDom]

/-- A covering palette that no earlier one forestalls is the one chosen. -/
theorem choosePalette_of_first {table : PaletteTable} {t : Tile8} {m : Palette} {pid : Nat}
    (hm : table[pid]? = some m) (hcov : covers m t = true)
    (hfirst : ∀ j, j < pid → ∀ m', table[j]? = some m' → covers m' t = false) :
    choosePalette table t = some (m, pid) := by
  cases hchoose : choosePalette table t with
  | none =>
    have hnot := (choosePalette_none table t).mp hchoose m (List.mem_of_getElem? hm)
    simp [hcov] at hnot
  | some p =>
    obtain ⟨m', pid'⟩ := p
    obtain ⟨hm', hcov', hfirst'⟩ := choosePalette_some table t m' pid' hchoose
    obtain hlt | rfl | hgt := Nat.lt_trichotomy pid' pid
    · simp [hfirst pid' hlt m' hm'] at hcov'
    · rw [Option.some.inj (hm'.symm.trans hm)]
    · simp [hfirst' pid m hgt hm] at hcov

/-- Settles O26. -/
theorem paletteSelectionIsFirstMatch : Obligations.PaletteSelectionIsFirstMatch := by
  unfold Obligations.PaletteSelectionIsFirstMatch
  intro table t
  simp only [← covers_iff, ← covers_eq_false_iff]
  refine ⟨choosePalette_index table t, choosePalette_none table t, fun m pid => ⟨fun h => ?_, ?_⟩⟩
  · obtain ⟨hm, hcov, hfirst⟩ := choosePalette_some table t m pid h
    exact ⟨hm, hcov, fun j hj m' => hfirst j m' hj⟩
  · rintro ⟨hm, hcov, hfirst⟩
    exact choosePalette_of_first hm hcov hfirst

end Sys2Proof.Machine
end

section
/-! PROOFS. CONVERT against the mirror classes, without its lookup map (R98 to R107). -/

namespace Sys2Proof.Machine

open Sys2Proof

/-! ## What LUT answers, read off TS (R101, R103) -/

/-- The first orientation, in the order of R103, that turns `c` into `k`. -/
def orientation (c k : CTile) : Option (Bool × Bool) := mirrorOrder.find? (fun f => mirror f.1 f.2 c == k)

/-- The first tile of TS that `k` mirrors, and the first orientation that turns that tile into `k`. -/
def firstMirror (ts : List CTile) (k : CTile) : Option LutEntry :=
  (ts.findIdx? (fun r => isMirror r k)).bind fun tid =>
    (orientation (ts.getD tid []) k).map fun f => ⟨BitVec.ofNat 10 tid, f.1, f.2⟩

theorem isMirror_eq_isSome (c k : CTile) : isMirror c k = (orientation c k).isSome := List.isSome_find?.symm

theorem mirror_unflipped {c : CTile} (hc : c.length = 64) : mirror false false c = c :=
  (flipTile_eq_mirror hc false false).symm

theorem orientation_self {c : CTile} (hc : c.length = 64) : orientation c c = some (false, false) := by
  simp [orientation, mirrorOrder, mirror_unflipped hc]

theorem firstMirror_eq_none_iff {ts : List CTile} {k : CTile} :
    firstMirror ts k = none ↔ ts.any (fun r => isMirror r k) = false := by
  rw [← List.findIdx?_isSome, Option.isSome_eq_false_iff, Option.isNone_iff_eq_none]
  constructor
  · intro h
    cases hidx : ts.findIdx? (fun r => isMirror r k) with
    | none => rfl
    | some tid =>
      obtain ⟨hlt, hmirror, -⟩ := List.findIdx?_eq_some_iff_getElem.mp hidx
      rw [isMirror_eq_isSome, ← List.getD_eq_getElem ts [] hlt] at hmirror
      simp only [firstMirror, hidx, Option.bind_some, Option.map_eq_none_iff] at h
      rw [h] at hmirror
      cases hmirror
  · intro h
    rw [firstMirror, h, Option.bind_none]

/-- A tile that has its mirror in TS keeps it when TS grows. -/
theorem firstMirror_append_of_some {ts : List CTile} {k : CTile} {e : LutEntry} (he : firstMirror ts k = some e)
    (more : List CTile) : firstMirror (ts ++ more) k = some e := by
  cases hidx : ts.findIdx? (fun r => isMirror r k) with
  | none => simp [firstMirror, hidx] at he
  | some tid =>
    obtain ⟨hlt, -⟩ := List.findIdx?_eq_some_iff_getElem.mp hidx
    rw [firstMirror, hidx, Option.bind_some] at he
    rw [firstMirror, List.findIdx?_append, hidx, Option.some_or, Option.bind_some, List.getD_append _ _ _ _ hlt, he]

/-- A tile new to TS is looked for in the next tile. -/
theorem firstMirror_concat_of_none {ts : List CTile} {k : CTile} (hnew : firstMirror ts k = none) (c : CTile) :
    firstMirror (ts ++ [c]) k
      = (orientation c k).map fun f => ⟨BitVec.ofNat 10 ts.length, f.1, f.2⟩ := by
  have hidx : ts.findIdx? (fun r => isMirror r k) = none := by
    simpa [← List.findIdx?_isSome] using firstMirror_eq_none_iff.mp hnew
  have hget : (ts ++ [c]).getD ts.length [] = c := by simp
  rw [firstMirror, List.findIdx?_append, hidx, Option.none_or, List.findIdx?_singleton]
  cases horient : orientation c k <;> simp [isMirror_eq_isSome, horient]

theorem firstMirror_singleton (c k : CTile) :
    firstMirror [c] k = (orientation c k).map fun f => ⟨0, f.1, f.2⟩ :=
  firstMirror_concat_of_none (ts := []) rfl c

/-- LUT after a registration: the first writer's value, else the value registered (R98). -/
theorem mapLookup_register_eq (j k : CTile) (tid : BitVec 10) (h v : Bool) (lut : PMap CTile LutEntry) :
    mapLookup j (register k tid h v lut) = (mapLookup j lut).or (if k == j then some ⟨tid, h, v⟩ else none) := by
  rw [register, mapLookup_insertNew]
  by_cases hj : j = k
  · subst hj
    cases mapLookup j lut <;> simp
  · simp [hj, Ne.symm hj]

theorem map_find?_cons {α β : Type} (p : α → Bool) (g : α → β) (a : α) (l : List α) :
    ((a :: l).find? p).map g = (if p a then some (g a) else none).or ((l.find? p).map g) := by
  cases hp : p a <;> simp [hp]

/-- LUT after the four registrations of a new tile: they are tried in the order of R103. -/
theorem mapLookup_registerMirrors_eq {c : CTile} (hc : c.length = 64) (k : CTile) (tid : BitVec 10)
    (lut : PMap CTile LutEntry) : mapLookup k (registerMirrors c tid lut)
      = (mapLookup k lut).or ((orientation c k).map fun f => ⟨tid, f.1, f.2⟩) := by
  rw [registerMirrors_eq, orientation, mirrorOrder]
  simp only [mapLookup_register_eq, flipTile_eq_mirror hc, map_find?_cons, List.find?_nil, Option.map_none,
    Option.or_none, Option.or_assoc]

/-- LUT answers as TS alone would. -/
def LutMatchesTs (s : State) : Prop := ∀ k, mapLookup k s.lut = firstMirror s.ts k

theorem LutMatchesTs.addTile {s : State} (h : LutMatchesTs s) {c : CTile} (hc : c.length = 64) :
    LutMatchesTs (s.addTile c) := by
  intro k
  rw [addTile_lut, addTile_ts, mapLookup_registerMirrors_eq hc, h k]
  cases hold : firstMirror s.ts k with
  | some e => rw [Option.some_or, firstMirror_append_of_some hold]
  | none => rw [Option.none_or, firstMirror_concat_of_none hold]

/-! ## One tile per mirror class (R107 c) -/

theorem representatives_append (reps cs ds : List CTile) :
    representatives reps (cs ++ ds) = representatives (representatives reps cs) ds := by
  induction cs generalizing reps with
  | nil => rfl
  | cons c cs ih =>
    rw [List.cons_append, representatives, representatives]
    split <;> exact ih _

theorem representatives_known {reps : List CTile} {c : CTile} {e : LutEntry} (h : firstMirror reps c = some e)
    (cs : List CTile) : representatives reps (c :: cs) = representatives reps cs := by
  have hany : reps.any (fun r => isMirror r c) = true := by
    by_contra hnot
    simp [firstMirror_eq_none_iff.mpr (Bool.eq_false_iff.mpr hnot)] at h
  rw [representatives, if_pos hany]

theorem representatives_new {reps : List CTile} {c : CTile} (h : firstMirror reps c = none) (cs : List CTile) :
    representatives reps (c :: cs) = representatives (reps ++ [c]) cs := by
  rw [representatives, firstMirror_eq_none_iff.mp h, if_neg Bool.false_ne_true]

theorem length_le_representatives (reps cs : List CTile) : reps.length ≤ (representatives reps cs).length := by
  induction cs generalizing reps with
  | nil => exact Nat.le_refl _
  | cons c cs ih =>
    rw [representatives]
    split
    · exact ih reps
    · exact Nat.le_trans (by simp) (ih (reps ++ [c]))

/-! ## Tiles with and without a palette -/

section
variable {table : PaletteTable} {u : Tile8}

theorem firstCover_of_not_chosen (hchoose : choosePalette table u = none) : firstCover table u = none := by
  rw [← choosePalette_index, hchoose, Option.map_none]

theorem tileIndices_of_not_chosen (hchoose : choosePalette table u = none) : tileIndices table u = none := by
  rw [tileIndices, firstCover_of_not_chosen hchoose, Option.bind_none]

theorem entryOf_of_not_chosen (hchoose : choosePalette table u = none) (ts : List CTile) :
    entryOf table ts u = none := by
  rw [entryOf, firstCover_of_not_chosen hchoose, Option.bind_none]

/-- The entry of a covered tile is what LUT would answer, with the palette's id (R104). -/
theorem entryOf_of_chosen {m : Palette} {pid : Nat} (hchoose : choosePalette table u = some (m, pid))
    (ts : List CTile) : entryOf table ts u = (firstMirror ts (mapTile m u)).map fun e =>
      ⟨e.tileId, BitVec.ofNat 3 pid, e.hflip, e.vflip⟩ := by
  rw [entryOf, firstCover_of_chosen hchoose, tileIndices_of_chosen hchoose, Option.bind_some, Option.bind_some,
    firstMirror, Option.map_bind]
  simp only [Function.comp_def, Option.map_map, orientation]

theorem uncovered_concat (tiles : List Tile8) : uncovered table (tiles ++ [u])
    = uncovered table tiles ++ if (firstCover table u).isNone then [tiles.length] else [] := by
  have hold : ∀ i ∈ List.range tiles.length, (firstCover table ((tiles ++ [u]).getD i [])).isNone
      = (firstCover table (tiles.getD i [])).isNone := fun i hi => by
    rw [List.getD_append _ _ _ _ (List.mem_range.mp hi)]
  rw [uncovered, List.length_append, List.length_singleton, List.range_succ, List.filter_append,
    List.filter_congr hold, List.filter_singleton]
  simp [uncovered]

theorem uncovered_concat_of_chosen {m : Palette} {pid : Nat} (hchoose : choosePalette table u = some (m, pid))
    (tiles : List Tile8) : uncovered table (tiles ++ [u]) = uncovered table tiles := by
  simp [uncovered_concat, firstCover_of_chosen hchoose]

end

/-! ## The stores after the tiles done so far -/

/-- The stores of CONVERT after the tiles `done`, said without the lookup map. TM is said for every later TS:
an entry does not depend on the tiles that come after it. -/
structure PassOf (table : PaletteTable) (done : List Tile8) (s : State) : Prop where
  pass : PassInv s
  lut : LutMatchesTs s
  ts : s.ts = representatives [] (done.filterMap (tileIndices table))
  tm : ∀ more, s.tm = done.filterMap (entryOf table (s.ts ++ more))
  inv : s.inv = uncovered table done
  pos : s.pos = done.length

theorem passOf_clearPass (table : PaletteTable) (s : State) : PassOf table [] s.clearPass where
  pass := passInv_clearPass s
  lut := fun _ => rfl
  ts := rfl
  tm := fun _ => rfl
  inv := rfl
  pos := rfl

/-- A covered tile adds its candidate to the sequences the classes are made of. -/
theorem PassOf.representatives_of_chosen {table : PaletteTable} {done : List Tile8} {u : Tile8} {s : State}
    (hs : PassOf table done s) {m : Palette} {pid : Nat} (hchoose : choosePalette table u = some (m, pid))
    (rest : List Tile8) : representatives [] ((done ++ u :: rest).filterMap (tileIndices table))
      = representatives s.ts (mapTile m u :: rest.filterMap (tileIndices table)) := by
  rw [List.filterMap_append, representatives_append, ← hs.ts,
    List.filterMap_cons_some (tileIndices_of_chosen hchoose)]

/-- One more tile, by the three ways a pass ends. -/
theorem PassOf.tilePass {table : PaletteTable} {done : List Tile8} {u : Tile8} {s t : State}
    (hs : PassOf table done s) (hu : u.length = 64) (h : TilePass table u s t) : PassOf table (done ++ [u]) t := by
  have hpass := h.passInv hu hs.pass
  have hpos : t.pos = (done ++ [u]).length := by rw [h.pos_eq, hs.pos, List.length_append, List.length_singleton]
  cases h with
  | uncovered hchoose =>
    refine ⟨hpass, hs.lut, ?ts, fun more => ?tm, ?inv, hpos⟩
    case ts => simpa [tileIndices_of_not_chosen hchoose] using hs.ts
    case tm => simpa [entryOf_of_not_chosen hchoose] using hs.tm more
    case inv => simp [uncovered_concat, firstCover_of_not_chosen hchoose, hs.inv, hs.pos]
  | @found m pid e hchoose hlookup =>
    have hknown : firstMirror s.ts (mapTile m u) = some e := (hs.lut _).symm.trans hlookup
    refine ⟨hpass, hs.lut, ?ts, fun more => ?tm, ?inv, hpos⟩
    case ts =>
      rw [hs.representatives_of_chosen hchoose, representatives_known hknown]
      rfl
    case tm => simp [entryOf_of_chosen hchoose, firstMirror_append_of_some hknown, hs.tm more]
    case inv => exact hs.inv.trans (uncovered_concat_of_chosen hchoose done).symm
  | @added m pid hchoose hlookup hroom =>
    have hnew : firstMirror s.ts (mapTile m u) = none := (hs.lut _).symm.trans hlookup
    have hlength := candidate_length hu hchoose
    have hself : firstMirror (s.ts ++ [mapTile m u]) (mapTile m u)
        = some ⟨BitVec.ofNat 10 s.ts.length, false, false⟩ := by
      rw [firstMirror_concat_of_none hnew, orientation_self hlength, Option.map_some]
    refine ⟨hpass, hs.lut.addTile hlength, ?ts, fun more => ?tm, ?inv, hpos⟩
    case ts =>
      rw [hs.representatives_of_chosen hchoose, representatives_new hnew]
      rfl
    case tm =>
      have hold : s.tm = done.filterMap (entryOf table (s.ts ++ [mapTile m u] ++ more)) := by
        rw [List.append_assoc]
        exact hs.tm _
      simp only [emitEntry_tm, emitEntry_ts, addTile_tm, addTile_ts, List.filterMap_append, ← hold,
        List.filterMap_cons, List.filterMap_nil, entryOf_of_chosen hchoose, firstMirror_append_of_some hself,
        Option.map_some]
    case inv => exact hs.inv.trans (uncovered_concat_of_chosen hchoose done).symm

/-- The pass that ends in the CapacityError (R102): the tile's candidate mirrors no tile of a full TS. -/
theorem convertTile_none {table : PaletteTable} {u : Tile8} {s : State} (h : convertTile table u s = none) :
    ∃ m pid, choosePalette table u = some (m, pid) ∧ mapLookup (mapTile m u) s.lut = none ∧
      s.ts.length = 1024 := by
  unfold convertTile at h
  split at h
  next => cases h
  next m pid hchoose => exact ⟨m, pid, hchoose, (placeCandidate_none _ pid s).mp (Option.map_eq_none_iff.mp h)⟩

/-- A tile whose mirror class is the one too many. -/
theorem PassOf.lt_of_convertTile_none {table : PaletteTable} {done : List Tile8} {u : Tile8} {s : State}
    (hs : PassOf table done s) (h : convertTile table u s = none) (rest : List Tile8) :
    1024 < (representatives [] ((done ++ u :: rest).filterMap (tileIndices table))).length := by
  obtain ⟨m, pid, hchoose, hlookup, hfull⟩ := convertTile_none h
  rw [hs.representatives_of_chosen hchoose, representatives_new ((hs.lut _).symm.trans hlookup)]
  calc 1024 < (s.ts ++ [mapTile m u]).length := by simp [hfull]
    _ ≤ _ := length_le_representatives _ _

/-- The loop comes to its end with the stores of all the tiles, or it has met more than 1024 mirror classes. -/
theorem PassOf.completes_or_overflows {table : PaletteTable} {done tiles : List Tile8} {s : State}
    (hs : PassOf table done s) (htiles : ∀ u ∈ tiles, u.length = 64) :
    (∃ t, convertTiles table tiles s = some t ∧ PassOf table (done ++ tiles) t) ∨
    (convertTiles table tiles s = none ∧
      1024 < (representatives [] ((done ++ tiles).filterMap (tileIndices table))).length) := by
  induction tiles generalizing done s with
  | nil => exact .inl ⟨s, rfl, by simpa using hs⟩
  | cons u rest ih =>
    obtain ⟨hu, hrest⟩ := List.forall_mem_cons.mp htiles
    unfold convertTiles
    cases hpass : convertTile table u s with
    | none => exact .inr ⟨rfl, hs.lt_of_convertTile_none hpass rest⟩
    | some s1 => simpa using ih (hs.tilePass hu (convertTile_tilePass hpass)) hrest

/-! ## CONVERT (R98) -/

section
variable {tiles : List Tile8} {src : Src PaletteTable} {s : State} (htiles : tilesOk tiles = true)
  (htable : tableOk (srcValue s.pt src) = true)
include htiles htable

theorem exec_convert_of_none (h : convertTiles (srcValue s.pt src) tiles s.clearPass = none) :
    exec (.convert tiles src) s = raise .capacity (.failed .tileCount) s.clearPass := by
  refine (withOperands_of_inRange _ (Bool.and_eq_true_iff.mpr ⟨htiles, htable⟩) _).trans ?_
  rw [h]

theorem exec_convert_of_some {t : State} (h : convertTiles (srcValue s.pt src) tiles s.clearPass = some t) :
    exec (.convert tiles src) s = if t.inv = [] then succeed (.converted t.tm t.ts) t
      else raise .paletteMatch (.positions t.inv) s.clearPass := by
  refine (withOperands_of_inRange _ (Bool.and_eq_true_iff.mpr ⟨htiles, htable⟩) _).trans ?_
  rw [h]

end

/-- Settles O27: the loop has the stores of all the tiles, or one mirror class too many. -/
theorem convertKeepsOneTilePerMirrorClass : Obligations.ConvertKeepsOneTilePerMirrorClass := by
  unfold Obligations.ConvertKeepsOneTilePerMirrorClass
  intro tiles src s htiles htable table reps bad
  obtain ⟨t, hloop, hpass⟩ | ⟨hloop, hmany⟩ :=
    (passOf_clearPass table s).completes_or_overflows fun _ => length_of_mem_tilesOk htiles
  · have hexec := exec_convert_of_some htiles htable hloop
    have hts : t.ts = reps := hpass.ts
    have hinv : t.inv = bad := hpass.inv
    have hfew : reps.length ≤ 1024 := hts ▸ hpass.pass.few
    refine ⟨fun hmany => absurd hfew (Nat.not_le.mpr hmany), fun _ hbad => ?uncovered, fun _ hbad => ?covered⟩
    case uncovered =>
      rw [hexec, hinv, if_neg hbad]
      rfl
    case covered =>
      obtain ⟨hpt, hinbox, houtbox, hmax⟩ := convertTiles_sameOutsidePass hloop
      rw [hbad] at hinv
      have hcount : t.pos = t.tm.length + t.inv.length := convertTiles_pos rfl hloop
      have htm : t.tm = tiles.filterMap (entryOf table reps) := by simpa [hts] using hpass.tm []
      have hpos : t.pos = tiles.length := hpass.pos
      refine ⟨t.deliver (.ok (.converted t.tm t.ts)), by rw [hexec, if_pos hinv]; rfl, hts, htm, ?_, hinv, hpos, hpt,
        hinbox, hmax, ?_⟩
      · simpa [hinv, hpos] using hcount.symm
      · simp [houtbox]
  · refine ⟨fun _ => ⟨_, exec_convert_of_none htiles htable hloop⟩, fun hfew => ?_, fun hfew => ?_⟩
    all_goals exact absurd hmany (Nat.not_lt.mpr hfew)

/-! ## CONVERT on an empty table (R99, R153) -/

theorem tileIndices_nil (u : Tile8) : tileIndices [] u = none := rfl

theorem uncovered_nil (tiles : List Tile8) : uncovered [] tiles = List.range tiles.length :=
  List.filter_eq_self.mpr fun _ _ => rfl

/-- Settles O32: an empty table covers no tile, so there is no mirror class and every position is uncovered. -/
theorem convertOnAnEmptyTableReportsEveryTile : Obligations.ConvertOnAnEmptyTableReportsEveryTile := by
  unfold Obligations.ConvertOnAnEmptyTableReportsEveryTile
  intro tiles s htiles hne hpt
  have hclasses : tiles.filterMap (tileIndices []) = [] := List.filterMap_eq_nil_iff.mpr fun u _ => tileIndices_nil u
  obtain ⟨-, huncovered, -⟩ :=
    convertKeepsOneTilePerMirrorClass tiles .store s htiles (by rw [srcValue_store, hpt]; rfl)
  simp only [srcValue_store, hpt, hclasses, uncovered_nil] at huncovered
  exact huncovered (by simp [representatives]) (by simpa using hne)

/-! ## A tile and its mirror (R107 d) -/

theorem mem_of_mem_pick {α : Type} {t : List α} {indices : List Nat} {a : α} (h : a ∈ pick t indices) :
    a ∈ t := by
  obtain ⟨i, -, hi⟩ := List.mem_filterMap.mp h
  exact List.mem_of_getElem? hi

section
variable {m : Palette} {t : Tile8}

theorem covers_hflip8 (hcov : covers m t = true) : covers m (hflip8 t) = true :=
  covers_iff.mpr fun c hc => covers_iff.mp hcov c (mem_of_mem_pick hc)

/-- The indices of a covered tile as a change of values, position by position (R100). -/
theorem mapTile_eq_map (hcov : covers m t = true) : mapTile m t = t.map fun c => (mapLookup c m).getD 0 :=
  filterMap_eq_map_of_some _ _ t fun c hc => by
    obtain ⟨i, hi⟩ := (inDom_iff c m).mp (covers_iff.mp hcov c hc)
    rw [hi, Option.getD_some]

theorem mapTile_hflip8 (hcov : covers m t = true) : mapTile m (hflip8 t) = hflip8 (mapTile m t) := by
  rw [mapTile_eq_map hcov, mapTile_eq_map (covers_hflip8 hcov), hflip8, hflip8, hflipBlock_map]

/-- An injective palette maps two covered tiles to one index sequence only where they are one tile. -/
theorem mapTile_injective (hinj : Injective m) {u : Tile8} (ht : covers m t = true) (hu : covers m u = true)
    (h : mapTile m t = mapTile m u) : t = u := by
  refine List.ext_getElem (by rw [← mapTile_length m t ht, h, mapTile_length m u hu]) fun i hi hi' => ?_
  have hat := congrArg (·[i]?) h
  simp only [mapTile_getElem? m _ ht, mapTile_getElem? m _ hu, List.getElem?_eq_getElem hi,
    List.getElem?_eq_getElem hi', Option.bind_some] at hat
  obtain ⟨v, hv⟩ := (inDom_iff _ m).mp (covers_iff.mp ht t[i] (List.getElem_mem hi))
  exact hinj _ _ v hv (hat ▸ hv)

theorem hflip8_mapTile_eq_iff (hinj : Injective m) (hcov : covers m t = true) :
    hflip8 (mapTile m t) = mapTile m t ↔ hflip8 t = t := by
  rw [← mapTile_hflip8 hcov]
  exact ⟨mapTile_injective hinj (covers_hflip8 hcov) hcov, congrArg _⟩

theorem choosePalette_singleton (hcov : covers m t = true) : choosePalette [m] t = some (m, 0) :=
  choosePalette_of_first rfl hcov fun _ hj => absurd hj (Nat.not_lt_zero _)

theorem uncovered_of_all_covered {table : PaletteTable} {tiles : List Tile8}
    (h : ∀ u ∈ tiles, (firstCover table u).isSome = true) : uncovered table tiles = [] := by
  refine List.filter_eq_nil_iff.mpr fun i hi => ?_
  have hlt := List.mem_range.mp hi
  rw [List.getD_eq_getElem _ _ hlt, Option.isNone_iff_eq_none]
  exact Option.isSome_iff_ne_none.mp (h _ (List.getElem_mem hlt))

end

/-- The first orientation that turns a tile into its horizontal mirror: the flip, unless they are one. -/
theorem orientation_hflip8 {c : CTile} (hc : c.length = 64) :
    orientation c (hflip8 c) = some (!decide (hflip8 c = c), false) := by
  have hflip : mirror true false c = hflip8 c := (flipTile_eq_mirror hc true false).symm
  by_cases h : hflip8 c = c
  · rw [h, orientation_self hc, decide_eq_true rfl]
    rfl
  · simp [orientation, mirrorOrder, mirror_unflipped hc, hflip, h, Ne.symm h]

/-- Settles O30: the mirror is of the class of the tile, and the index sequences are one where the tiles are. -/
theorem aTileAndItsMirrorShareOneTile : Obligations.ATileAndItsMirrorShareOneTile := by
  unfold Obligations.ATileAndItsMirrorShareOneTile
  intro t m s ht hm hinj hall
  have hcov := covers_iff.mpr hall
  have hcov' := covers_hflip8 hcov
  have hchoose := choosePalette_singleton hcov
  have hchoose' := choosePalette_singleton hcov'
  have hlength := candidate_length ht hchoose
  have hfirst : firstMirror [mapTile m t] (mapTile m t) = some ⟨0, false, false⟩ := by
    rw [firstMirror_singleton, orientation_self hlength, Option.map_some]
  have hsecond : firstMirror [mapTile m t] (mapTile m (hflip8 t)) = some ⟨0, !decide (hflip8 t = t), false⟩ := by
    simp [firstMirror_singleton, mapTile_hflip8 hcov, orientation_hflip8 hlength, hflip8_mapTile_eq_iff hinj hcov]
  have hreps : representatives [] ([t, hflip8 t].filterMap (tileIndices [m])) = [mapTile m t] := by
    rw [List.filterMap_cons_some (tileIndices_of_chosen hchoose), representatives_new rfl,
      List.filterMap_cons_some (tileIndices_of_chosen hchoose'), List.nil_append, representatives_known hsecond]
    rfl
  have huncovered : uncovered [m] [t, hflip8 t] = [] := uncovered_of_all_covered (by
    simp [firstCover_of_chosen hchoose, firstCover_of_chosen hchoose'])
  obtain ⟨-, -, hcovered⟩ := convertKeepsOneTilePerMirrorClass [t, hflip8 t] (.given [m]) s
    (by simp [tilesOk, tile8Ok, ht, hflip8_length ht]) (by simp [tableOk, hm])
  simp only [srcValue_given, hreps, huncovered] at hcovered
  obtain ⟨s', hexec, hts, htm, -⟩ := hcovered (by simp) trivial
  simp only [List.filterMap_cons, List.filterMap_nil, entryOf_of_chosen hchoose, entryOf_of_chosen hchoose', hfirst,
    hsecond, Option.map_some] at htm
  exact ⟨s', _, _, hexec, by rw [hts]; rfl, htm, rfl, rfl, by simp⟩

end Sys2Proof.Machine
end

section
/-! PROOFS. The byte layout of packed tiles, pack and unpack as inverses, and the linear packer (44_packer.md). -/

namespace Sys2Proof.Machine

open Sys2Proof

/-! ## Where a row of a plane stands in a packed tile (R109, R110) -/

/-- The (row, plane) pairs of the plane pair at base `b`. -/
def pairRows (bpp b : Nat) : List (Nat × Nat) :=
  (List.range 8).flatMap fun y => (pairPlanes bpp b).map fun plane => (y, plane)

theorem planeOrder_eq_flatMap_pairRows (bpp : Nat) : planeOrder bpp = (pairBases bpp).flatMap (pairRows bpp) := rfl

section
variable {bpp b q y i : Nat}

theorem pairPlanes_full (h : b + 1 < bpp) : pairPlanes bpp b = [b, b + 1] := if_pos h

theorem pairPlanes_single (h : ¬ b + 1 < bpp) : pairPlanes bpp b = [b] := if_neg h

/-- The rows of a pair stand one after another, and in a row its planes, low plane first. -/
theorem getElem?_pairRows (hi : i < (pairPlanes bpp b).length) (hy : y < 8) :
    (pairRows bpp b)[(pairPlanes bpp b).length * y + i]? = ((pairPlanes bpp b)[i]?).map fun plane => (y, plane) := by
  rw [pairRows, getElem?_flatMap_rows _ _ (fun _ => List.length_map _) 8 i y hi hy, List.getElem?_map]

/-- The bases below a base `b` are those of depth `b`. -/
theorem pairBases_eq_append (hb : b ∈ pairBases bpp) : ∃ rest, pairBases bpp = pairBases b ++ b :: rest := by
  obtain ⟨hbase, hlt⟩ := mem_pairBases.mp hb
  have hbelow {a : Nat} (ha : a < b) : a < bpp := ha.trans hlt
  refine ⟨[0, 2, 4, 6].filter fun a => b < a ∧ a < bpp, ?_⟩
  obtain rfl | rfl | rfl | rfl := hbase <;> simp [pairBases, hlt, hbelow, List.filter_cons]

/-- The pair at base `b` follows the planes below `b`, which are packed as at depth `b`: all their pairs are full. -/
theorem planeOrder_eq_append (hb : b ∈ pairBases bpp) :
    ∃ rest, planeOrder bpp = planeOrder b ++ (pairRows bpp b ++ rest) := by
  obtain ⟨rest, hrest⟩ := pairBases_eq_append hb
  obtain ⟨hbase, hlt⟩ := mem_pairBases.mp hb
  have hfull : (pairBases b).flatMap (pairRows bpp) = (pairBases b).flatMap (pairRows b) :=
    List.flatMap_congr fun a ha => by
      obtain ⟨habase, halt⟩ := mem_pairBases.mp ha
      rw [pairRows, pairRows, pairPlanes_full (by omega), pairPlanes_full (by omega)]
  refine ⟨rest.flatMap (pairRows bpp), ?_⟩
  rw [planeOrder_eq_flatMap_pairRows, hrest, List.flatMap_append, List.flatMap_cons, hfull,
    planeOrder_eq_flatMap_pairRows b]

theorem length_planeOrder_of_mem_pairBases (hb : b ∈ pairBases bpp) : (planeOrder b).length = 8 * b := by
  obtain ⟨hbase, -⟩ := mem_pairBases.mp hb
  obtain rfl | hpos := b.eq_zero_or_pos
  · rfl
  · rw [length_planeOrder hpos (by omega), Nat.mul_comm]

theorem getElem?_planeOrder_of_pairRows {e : Nat × Nat} (hb : b ∈ pairBases bpp)
    (he : (pairRows bpp b)[i]? = some e) : (planeOrder bpp)[8 * b + i]? = some e := by
  obtain ⟨rest, hrest⟩ := planeOrder_eq_append hb
  obtain ⟨hi, -⟩ := List.getElem?_eq_some_iff.mp he
  rw [hrest, ← length_planeOrder_of_mem_pairBases hb, List.getElem?_append_right (Nat.le_add_right _ _),
    Nat.add_sub_cancel_left, List.getElem?_append_left hi, he]

/-- The offset of R110 is the place of row `y` of plane `q` in the output order of R109. -/
theorem getElem?_planeOrder (h8 : bpp ≤ 8) (hq : q < bpp) (hy : y < 8) :
    (planeOrder bpp)[planeOffset bpp q y]? = some (y, q) := by
  have hbase {b : Nat} (hb : b % 2 = 0) (hlt : b < bpp) : b ∈ pairBases bpp := mem_pairBases.mpr (by omega)
  unfold planeOffset
  split
  case isTrue hfull =>
    have hplanes := pairPlanes_full hfull
    have hrow := getElem?_pairRows (i := q % 2) (by rw [hplanes]; exact Nat.mod_lt q two_pos) hy
    rw [hplanes] at hrow
    rw [Nat.add_assoc]
    refine getElem?_planeOrder_of_pairRows (hbase (by omega) (by omega)) (hrow.trans ?_)
    obtain h | h := Nat.mod_two_eq_zero_or_one q
    · simp [h]
    · simp [h, show q - 1 + 1 = q by omega]
  case isFalse hlast =>
    have hplanes := pairPlanes_single (bpp := bpp) (b := q) (by omega)
    have hrow := getElem?_pairRows (i := 0) (by rw [hplanes]; exact one_pos) hy
    rw [hplanes] at hrow
    refine getElem?_planeOrder_of_pairRows (hbase (by omega) hq) ?_
    simpa using hrow

end

section
variable {bpp : Nat} (h1 : 1 ≤ bpp) (h8 : bpp ≤ 8)
include h1 h8

/-- A list as long as the set of its elements names none twice. -/
theorem nodup_planeOrder : (planeOrder bpp).Nodup := by
  have hset : (planeOrder bpp).toFinset = Finset.range 8 ×ˢ Finset.range bpp := by
    ext ⟨y, q⟩
    simp [mem_planeOrder h8]
  refine Multiset.coe_nodup.mp (Multiset.toFinset_card_eq_card_iff_nodup.mp ?_)
  calc (planeOrder bpp).toFinset.card = 8 * bpp := by simp [hset]
    _ = (planeOrder bpp).length := by rw [length_planeOrder h1 h8, Nat.mul_comm]

/-- Any `bpp * 8` bytes are one byte for each row of each plane. -/
theorem exists_eq_map_planeOrder {bs : Bytes} (hbs : bs.length = bpp * 8) :
    ∃ g : Nat × Nat → Byte, bs = (planeOrder bpp).map g := by
  have hlen := length_planeOrder h1 h8
  refine ⟨fun e => bs.getD ((planeOrder bpp).idxOf e) 0, List.ext_getElem (by simp [hbs, hlen]) fun n hn hn' => ?_⟩
  rw [List.getElem_map, (nodup_planeOrder h1 h8).idxOf_getElem, List.getD_eq_getElem _ _ hn]

end

/-! ## The bytes of a packed tile, bit by bit -/

theorem planeByte_eq_iff {p : CTile} {y q : Nat} {b : Byte} :
    planeByte p y q = b ↔ ∀ x, x < 8 → planeBit p y q x = b.getLsbD (7 - x) := by
  constructor
  · rintro rfl x hx
    exact (getLsbD_planeByte p y q hx).symm
  · intro h
    refine BitVec.eq_of_getLsbD_eq fun i hi => ?_
    have hx : 7 - (7 - i) = i := by omega
    rw [← hx, getLsbD_planeByte p y q (by omega), h _ (by omega)]

theorem packTile_eq_map_iff {p : CTile} {bpp : Nat} (h8 : bpp ≤ 8) {g : Nat × Nat → Byte} :
    packTile p bpp = (planeOrder bpp).map g ↔
      ∀ y q x, y < 8 → q < bpp → x < 8 → planeBit p y q x = (g (y, q)).getLsbD (7 - x) := by
  simp only [packTile, List.map_inj_left, Prod.forall, mem_planeOrder h8, planeByte_eq_iff]
  exact ⟨fun h y q x hy hq hx => h y q ⟨hy, hq⟩ x hx, fun h y q ⟨hy, hq⟩ x hx => h y q x hy hq hx⟩

/-- Settles O35: the planes packed are those below `bpp`, and they are the bits the remainder keeps. -/
theorem packIgnoresHighIndexBits : Obligations.PackIgnoresHighIndexBits := by
  unfold Obligations.PackIgnoresHighIndexBits
  intro p bpp hp h1 h8
  refine (packTile_eq_map_iff h8).mpr fun y q x hy hq hx => ?_
  have hi : 8 * y + x < p.length := hp ▸ rowMajor_lt hx hy
  rw [getLsbD_planeByte _ _ _ hx, planeBit, planeBit, List.getD_eq_getElem _ _ hi,
    List.getD_eq_getElem _ _ (by rwa [List.length_map]), List.getElem_map, BitVec.getLsbD_ofNat,
    Nat.testBit_mod_two_pow, BitVec.testBit_toNat]
  simp [hq, hq.trans_le h8]

/-! ## Packing what was unpacked (R115) -/

section
variable {bpp x y q : Nat} (h8 : bpp ≤ 8) (g : Nat × Nat → Byte)
include h8

/-- Plane `q` of an unpacked index is column `x` of the byte of its row and plane; the other planes are clear. -/
theorem getLsbD_unpackIndex (hy : y < 8) (hq : q < 8) :
    (unpackIndex ((planeOrder bpp).map g) bpp y x).getLsbD q = (decide (q < bpp) && (g (y, q)).getLsbD (7 - x)) := by
  rw [unpackIndex, ← List.map_prod_left_eq_zip, List.foldl_map,
    getLsbD_collect _ (fun e => (g e).getLsbD (7 - x)) 0 y hq]
  simp [mem_planeOrder h8, hy]

theorem packTile_unpackTile_map : packTile (unpackTile ((planeOrder bpp).map g) bpp) bpp = (planeOrder bpp).map g := by
  refine (packTile_eq_map_iff h8).mpr fun y q x hy hq hx => ?_
  rw [planeBit, List.getD_eq_getElem?_getD, unpackTile_getElem? _ _ hx hy, Option.getD_some,
    getLsbD_unpackIndex h8 g hy (hq.trans_le h8), decide_eq_true hq, Bool.true_and]

theorem unpackIndex_lt (hy : y < 8) : (unpackIndex ((planeOrder bpp).map g) bpp y x).toNat < 2 ^ bpp := by
  refine Nat.lt_pow_two_of_testBit _ fun q hq => ?_
  rw [BitVec.testBit_toNat]
  obtain hq8 | hq8 := Nat.lt_or_ge q 8
  · rw [getLsbD_unpackIndex h8 g hy hq8, decide_eq_false (Nat.not_lt.mpr hq), Bool.false_and]
  · exact BitVec.getLsbD_of_ge _ _ hq8

theorem unpackTile_fits : ∀ i ∈ unpackTile ((planeOrder bpp).map g) bpp, i.toNat < 2 ^ bpp := by
  refine List.forall_mem_map.mpr fun c hc => ?_
  obtain ⟨-, hy⟩ := (mem_blockCoords 8 8 c).mp hc
  exact unpackIndex_lt h8 g hy

end

/-- Settles O34: bytes are one for each row of each plane, and so unpacked bit by bit. -/
theorem packAndUnpackAreInverse : Obligations.PackAndUnpackAreInverse := by
  unfold Obligations.PackAndUnpackAreInverse
  intro bpp h1 h8
  refine ⟨fun p hp hfit => unpackTile_packTile h8 hp hfit, fun bs hbs => ?_⟩
  obtain ⟨g, rfl⟩ := exists_eq_map_planeOrder h1 h8 hbs
  exact ⟨packTile_unpackTile_map h8 g, unpackTile_length _ _, unpackTile_fits h8 g⟩

/-! ## PACK (R108) -/

theorem length_of_mem_tilesetOk {ts : List CTile} (h : tilesetOk ts = true) : ∀ p ∈ ts, p.length = 64 :=
  fun p hp => beq_iff_eq.mp (List.all_eq_true.mp h p hp)

theorem length_flatMap_packTile (ts : List CTile) {bpp : Nat} (h1 : 1 ≤ bpp) (h8 : bpp ≤ 8) :
    (ts.flatMap fun p => packTile p bpp).length = ts.length * (bpp * 8) := by
  simp [List.length_flatMap, packTile_length _ h1 h8]

theorem getElem?_packTile (p : CTile) {bpp q y : Nat} (h8 : bpp ≤ 8) (hq : q < bpp) (hy : y < 8) :
    (packTile p bpp)[planeOffset bpp q y]? = some (planeByte p y q) := by
  rw [packTile, List.getElem?_map, getElem?_planeOrder h8 hq hy, Option.map_some]

theorem getElem?_flatMap_packTile {ts : List CTile} {bpp k q y : Nat} {p : CTile} (h8 : bpp ≤ 8) (hq : q < bpp)
    (hy : y < 8) (hk : ts[k]? = some p) :
    (ts.flatMap fun p => packTile p bpp)[k * (bpp * 8) + planeOffset bpp q y]? = some (planeByte p y q) := by
  have hbyte := getElem?_packTile p h8 hq hy
  have hlen (p : CTile) : (packTile p bpp).length = bpp * 8 := packTile_length p (by omega) h8
  obtain ⟨hlt, -⟩ := List.getElem?_eq_some_iff.mp hbyte
  rw [getElem?_flatMap_chunk hlen hk (hlen p ▸ hlt), hbyte]

theorem exec_pack {src : Src (List CTile)} {bpp : Nat} {s : State} (hts : tilesetOk (srcValue s.ts src) = true)
    (h1 : 1 ≤ bpp) (h8 : bpp ≤ 8) : exec (.pack src bpp) s =
      .next (s.deliver (.ok (.bytes ((srcValue s.ts src).flatMap fun p => packTile p bpp)))) :=
  withOperands_of_inRange _ (by simp [hts, bppOk, h1, h8]) _

/-- Settles O33: each tile is a chunk of `bpp * 8` bytes, and R110 is the place of a row of a plane in it. -/
theorem packInterleavesBitplanes : Obligations.PackInterleavesBitplanes := by
  unfold Obligations.PackInterleavesBitplanes
  intro src bpp s hts h1 h8
  refine ⟨_, exec_pack hts h1 h8, length_flatMap_packTile _ h1 h8, fun k p hk q y hq hy =>
    ⟨planeByte p y q, getElem?_flatMap_packTile h8 hq hy hk, fun x hx => ?_⟩⟩
  have hi : 8 * y + x < p.length :=
    (length_of_mem_tilesetOk hts p (List.mem_of_getElem? hk)).symm ▸ rowMajor_lt hx hy
  refine ⟨p[8 * y + x], List.getElem?_eq_getElem hi, ?_⟩
  rw [getLsbD_planeByte p y q hx, planeBit, List.getD_eq_getElem p 0 hi]

/-! ## PACKLIN (R112) -/

section
variable {α : Type} {ts : List (List α)} {w : Nat} (hts : ∀ p ∈ ts, p.length = w)
include hts

theorem length_flatten_chunks : ts.flatten.length = w * ts.length := by
  rw [List.length_flatten, List.map_congr_left hts]
  simp [Nat.mul_comm]

theorem getElem?_flatten_chunk {k j : Nat} {p : List α} (hk : ts[k]? = some p) (hj : j < w) :
    ts.flatten[w * k + j]? = p[j]? := by
  lift ts to List {p : List α // p.length = w} using hts
  rw [List.getElem?_map] at hk
  obtain ⟨q, hq, rfl⟩ := Option.map_eq_some_iff.mp hk
  rw [Nat.mul_comm]
  exact getElem?_flatMap_chunk (fun q => q.property) hq hj

end

theorem exec_packlin {src : Src (List CTile)} {s : State} (hts : tilesetOk (srcValue s.ts src) = true) :
    exec (.packlin src) s = if 256 < (srcValue s.ts src).length then raise .capacity (.failed .linearTileCount) s
      else succeed (.bytes (srcValue s.ts src).flatten) s :=
  withOperands_of_inRange _ hts _

/-- Settles O36: the tiles stand in the buffer as they are, so tile `k` is chunk `k`. -/
theorem packlinConcatenatesTiles : Obligations.PacklinConcatenatesTiles := by
  unfold Obligations.PacklinConcatenatesTiles
  intro src s hts
  have hsize := length_of_mem_tilesetOk hts
  rw [exec_packlin hts]
  exact ⟨fun hfits => ⟨_, if_neg (Nat.not_lt.mpr hfits), length_flatten_chunks hsize, fun k p hk j hj =>
    getElem?_flatten_chunk hsize hk hj⟩, fun hmany => ⟨_, if_pos hmany⟩⟩

end Sys2Proof.Machine
end

section
/-! PROOFS. The bytes of a tilemap entry and the three serializers (45_tilemap.md). -/

namespace Sys2Proof.Machine

open Sys2Proof

/-! ## The two bytes of an entry (R121) -/

theorem tmWord_eq_bits (e : TmEntry) (pri : Bool) : tmWord e pri
    = (bits e.tileId 0 8, tmbyte1Bits e.vflip e.hflip pri e.paletteId (bits e.tileId 8 2)) := by
  rw [tmWord, tmByte0_eq_bits, tmByte1_eq_bits]

theorem toNat_tmbyte1Bits (v h p : Bool) (c : BitVec 3) (t : BitVec 2) : (tmbyte1Bits v h p c t).toNat
    = t.toNat + 4 * c.toNat + (if p then 32 else 0) + (if h then 64 else 0) + (if v then 128 else 0) := by
  have hflag (b : Bool) (n : Nat) : (if b then n else 0) = b.toNat * n := by cases b <;> simp
  simp only [tmbyte1Bits, toNat_append_eq_add, BitVec.toNat_ofBool, hflag]
  omega

/-- The bits of a tile id above the low byte are its quotient by 256, which needs no mask (R56). -/
theorem toNat_tileIdHi (t : BitVec 10) : (bits t 8 2).toNat = t.toNat / 256 := by
  have ht := t.isLt
  rw [bits, BitVec.extractLsb'_toNat, Nat.shiftRight_eq_div_pow]
  omega

/-- Settles O37: byte1 is its fields side by side, so each counts by the power of two of its place. -/
theorem tilemapWordPlacesItsFields : Obligations.TilemapWordPlacesItsFields := by
  unfold Obligations.TilemapWordPlacesItsFields
  intro e pri
  rw [tmWord_eq_bits, toNat_tmbyte1Bits, toNat_tileIdHi]
  exact ⟨BitVec.extractLsb'_toNat .., rfl⟩

/-! ## Words and entries, one to one (R125, R126) -/

theorem tmDecode_eq_bits (b0 b1 : Byte) : tmDecode b0 b1
    = (⟨bits b1 0 2 ++ b0, bits b1 2 3, b1.getLsbD 6, b1.getLsbD 7⟩, b1.getLsbD 5) := by
  have hpalette := shiftRight_and_mask b1 0x07 2 3 3 rfl
  have hhigh := shiftRight_and_mask b1 0x03 0 2 10 rfl
  rw [BitVec.setWidth_eq] at hpalette
  rw [BitVec.ushiftRight_zero] at hhigh
  rw [tmDecode, hpalette, hhigh, shiftLeft_or, BitVec.setWidth_eq]

/-- Any two bytes are those of the entry read from them. -/
theorem tmWord_tmDecode (b0 b1 : Byte) : tmWord (tmDecode b0 b1).1 (tmDecode b0 b1).2 = (b0, b1) := by
  rw [tmDecode_eq_bits, tmWord_eq_bits, bits_append_low _ _ (by decide), bits_append_high _ _ (by decide),
    bits_self, bits_self, tmbyte1Bits_fields]

/-- Settles O38. -/
theorem tilemapWordRoundTrips : Obligations.TilemapWordRoundTrips :=
  ⟨tmDecode_tmWord, tmWord_tmDecode, rfl⟩

/-! ## The buffers (R122, R123) -/

section
variable (tm : List TmEntry) (pri : Bool)

@[simp] theorem length_tmCombined : (tmCombined tm pri).length = 2 * tm.length := by
  simp [tmCombined, List.length_flatMap, Nat.mul_comm]

@[simp] theorem length_tmLow : (tmLow tm pri).length = tm.length := List.length_map _

@[simp] theorem length_tmHigh : (tmHigh tm pri).length = tm.length := List.length_map _

end

section
variable {tm : List TmEntry} {k : Nat} {e : TmEntry} (he : tm[k]? = some e) (pri : Bool)
include he

theorem getElem?_tmCombined {j : Nat} (hj : j < 2) :
    (tmCombined tm pri)[2 * k + j]? = [(tmWord e pri).1, (tmWord e pri).2][j]? := by
  rw [Nat.mul_comm]
  exact getElem?_flatMap_chunk (w := 2) (fun _ => rfl) he hj

theorem getElem?_tmLow : (tmLow tm pri)[k]? = some (tmWord e pri).1 := by
  rw [tmLow, List.getElem?_map, he, Option.map_some]

theorem getElem?_tmHigh : (tmHigh tm pri)[k]? = some (tmWord e pri).2 := by
  rw [tmHigh, List.getElem?_map, he, Option.map_some]

/-- The low bytes stand first in the buffer of TMSPLITC (R124). -/
theorem getElem?_tmLow_append (bs : Bytes) : (tmLow tm pri ++ bs)[k]? = some (tmWord e pri).1 := by
  have hlow := getElem?_tmLow he pri
  obtain ⟨hk, -⟩ := List.getElem?_eq_some_iff.mp hlow
  rw [List.getElem?_append_left hk, hlow]

/-- The high bytes stand after the `N` low ones in the buffer of TMSPLITC (R124). -/
theorem getElem?_tmLow_append_tmHigh :
    (tmLow tm pri ++ tmHigh tm pri)[tm.length + k]? = some (tmWord e pri).2 := by
  rw [List.getElem?_append_right (by simp), length_tmLow, Nat.add_sub_cancel_left, getElem?_tmHigh he]

end

/-! ## The serializers (R120 to R124, R133) -/

theorem withTilemapLength_of_multiple {tm : List TmEntry} (h : tm.length % 1024 = 0)
    (run : Host.Outcome State Fault Refusal) : withTilemapLength tm run = run := if_pos h

theorem withTilemapLength_of_not_multiple {tm : List TmEntry} (h : tm.length % 1024 ≠ 0)
    (run : Host.Outcome State Fault Refusal) : withTilemapLength tm run = .fault .contractViolation := if_neg h

/-- Settles O40: the length check passes, and each buffer is written entry by entry. -/
theorem serializersEmitEveryEntryInOrder : Obligations.SerializersEmitEveryEntryInOrder := by
  unfold Obligations.SerializersEmitEveryEntryInOrder
  intro src pri s h
  have hrun := withTilemapLength_of_multiple h
  refine ⟨_, _, _, _, hrun _, hrun _, hrun _, length_tmCombined _ _, length_tmLow _ _, length_tmHigh _ _, ?_, ?_⟩
  · rw [List.length_append, length_tmLow, length_tmHigh, Nat.two_mul]
  · intro k e he
    exact ⟨getElem?_tmCombined he pri (j := 0) two_pos, getElem?_tmCombined he pri (j := 1) one_lt_two,
      getElem?_tmLow he pri, getElem?_tmHigh he pri, getElem?_tmLow_append he pri _,
      getElem?_tmLow_append_tmHigh he pri⟩

/-- Settles O41: the three operations open with the same length check. -/
theorem serializersFaultOnOtherLengths : Obligations.SerializersFaultOnOtherLengths := by
  unfold Obligations.SerializersFaultOnOtherLengths
  intro src pri s h
  have hfault := withTilemapLength_of_not_multiple h
  exact ⟨hfault _, hfault _, hfault _⟩

end Sys2Proof.Machine
end

section
/-! PROOFS. Errors, faults and refusals of every operation (60_exceptions.md). -/

namespace Sys2Proof.Machine

open Sys2Proof

/-! ## The state after an error (R137, R138) -/

/-- The one result the outbox has gained is the one delivered. -/
theorem outbox_deliver_eq_iff {s s' : State} (h : s'.outbox = s.outbox) (r r' : OpResult) :
    (s'.deliver r).outbox = s.outbox ++ [r'] ↔ r = r' := by simp [h]

theorem execConvert_err {tiles : List Tile8} {src : Src PaletteTable} {s t : State} {k : ErrKind} {info : ErrInfo}
    (h : execConvert tiles src s = .next t) (hout : t.outbox = s.outbox ++ [.err k info]) :
    t = s.clearPass.deliver (.err k info) := by
  obtain ⟨-, -, ⟨k', info', rfl⟩ | ⟨s', hloop, -, rfl⟩⟩ := execConvert_next h
  · rw [(outbox_deliver_eq_iff (clearPass_outbox s) _ _).mp hout]
  · cases (outbox_deliver_eq_iff (convertTiles_sameOutsidePass hloop).outbox _ _).mp hout

theorem execPalbuild_err {P : Surface} {bpp : Nat} {s t : State} {k : ErrKind} {info : ErrInfo}
    (h : execPalbuild P bpp s = .next t) (hout : t.outbox = s.outbox ++ [.err k info]) :
    t = s.deliver (.err k info) := by
  obtain ⟨k', info', rfl⟩ | ⟨-, -, -, rfl⟩ := execPalbuild_next h
  · rw [(outbox_deliver_eq_iff rfl _ _).mp hout]
  · cases (outbox_deliver_eq_iff rfl _ _).mp hout

/-- Settles O43: PALBUILD builds no table where it raises, CONVERT raises on the cleared stores, and every other
instruction only delivers. -/
theorem errorsLeaveTheStores : Obligations.ErrorsLeaveTheStores := by
  unfold Obligations.ErrorsLeaveTheStores
  intro i s t k info h hout
  by_cases hc : ∃ tiles src, i = .convert tiles src
  · obtain ⟨tiles, src, rfl⟩ := hc
    exact ⟨fun hne => absurd rfl (hne tiles src), fun _ => execConvert_err h hout⟩
  refine ⟨fun hne => ?_, fun hconvert => absurd hconvert hc⟩
  by_cases hp : ∃ P bpp, i = .palbuild P bpp
  · obtain ⟨P, bpp, rfl⟩ := hp
    exact execPalbuild_err h hout
  · push Not at hp
    obtain ⟨r, rfl⟩ := exec_onlyDelivers i s hp hne t h
    rw [(outbox_deliver_eq_iff rfl _ _).mp hout]

/-! ## Which operation raises which error (R132) -/

/-- The table of R132: a constructor for each error an operation can raise. No row holds a FormatError (R134). -/
inductive MayRaise : Instr → ErrKind → Prop where
  | xlin8 (S : Surface) : MayRaise (.xlin8 S) .validation
  | xlin16 (S : Surface) : MayRaise (.xlin16 S) .validation
  | xscr (S : Surface) : MayRaise (.xscr S) .validation
  | tprobe (S : Surface) (t : HwColor) (x0 y0 : Nat) : MayRaise (.tprobe S t x0 y0) .validation
  | xlarge (S : Surface) (x0 y0 : Nat) : MayRaise (.xlarge S x0 y0) .validation
  | palbuildWidth (P : Surface) (bpp : Nat) : MayRaise (.palbuild P bpp) .validation
  | palbuildCount (P : Surface) (bpp : Nat) : MayRaise (.palbuild P bpp) .capacity
  | palraw (L : List RGB) : MayRaise (.palraw L) .capacity
  | convertFull (tiles : List Tile8) (src : Src PaletteTable) : MayRaise (.convert tiles src) .capacity
  | convertUncovered (tiles : List Tile8) (src : Src PaletteTable) : MayRaise (.convert tiles src) .paletteMatch
  | packlin (src : Src (List CTile)) : MayRaise (.packlin src) .capacity

/-- Where the outcome is a next state with one result more than `s`, and that result is an error, its kind is
allowed. -/
def RaisesOnly (allowed : ErrKind → Prop) (s : State) (o : Host.Outcome State Fault Refusal) : Prop :=
  ∀ t k info, o = .next t → t.outbox = s.outbox ++ [.err k info] → allowed k

section
variable {allowed : ErrKind → Prop} {s s' : State} {o o' : Host.Outcome State Fault Refusal}

theorem raisesOnly_succeed (v : Value) (h : s'.outbox = s.outbox) : RaisesOnly allowed s (succeed v s') := by
  intro t k info ht hout
  obtain rfl := (succeed_next v s' t).mp ht
  cases (outbox_deliver_eq_iff h _ _).mp hout

theorem raisesOnly_raise {k : ErrKind} (hk : allowed k) (info : ErrInfo) (h : s'.outbox = s.outbox) :
    RaisesOnly allowed s (raise k info s') := by
  intro t k' info' ht hout
  obtain rfl := (raise_next k info s' t).mp ht
  cases (outbox_deliver_eq_iff h _ _).mp hout
  exact hk

theorem raisesOnly_refused (r : Refusal) : RaisesOnly allowed s (.refused r) :=
  fun _ _ _ h => nomatch h

theorem raisesOnly_ite {c : Prop} [Decidable c] (h : RaisesOnly allowed s o) (h' : RaisesOnly allowed s o') :
    RaisesOnly allowed s (if c then o else o') := by
  split
  · exact h
  · exact h'

theorem raisesOnly_withOperands (mn : String) (b : Bool) (h : RaisesOnly allowed s o) :
    RaisesOnly allowed s (withOperands mn b o) :=
  fun t k info ht => h t k info ((withOperands_next mn b o t).mp ht).2

theorem raisesOnly_withBlock (hvalidation : allowed .validation) (mn : String) (S : Surface) (x0 y0 n : Nat)
    (h : RaisesOnly allowed s o) : RaisesOnly allowed s (withBlock mn S x0 y0 n s o) :=
  raisesOnly_ite (raisesOnly_ite h (raisesOnly_refused _)) (raisesOnly_raise hvalidation _ rfl)

theorem raisesOnly_withTilemapLength (tm : List TmEntry) (h : RaisesOnly allowed s o) :
    RaisesOnly allowed s (withTilemapLength tm o) :=
  fun t k info ht => h t k info ((withTilemapLength_next tm o t).mp ht).2

end

/-- CONVERT raises CapacityError out of the loop and PaletteMatchError after it (R102, R105). -/
theorem execConvert_raisesOnly (tiles : List Tile8) (src : Src PaletteTable) (s : State) :
    RaisesOnly (MayRaise (.convert tiles src)) s (execConvert tiles src s) := by
  refine raisesOnly_withOperands _ _ ?_
  cases hloop : convertTiles (srcValue s.pt src) tiles s.clearPass with
  | none => exact raisesOnly_raise (.convertFull tiles src) _ rfl
  | some s' =>
    exact raisesOnly_ite (raisesOnly_succeed _ (convertTiles_sameOutsidePass hloop).outbox)
      (raisesOnly_raise (.convertUncovered tiles src) _ rfl)

theorem exec_raisesOnly (i : Instr) (s : State) : RaisesOnly (MayRaise i) s (exec i s) := by
  cases i with
  | quant => exact raisesOnly_succeed _ rfl
  | xlin8 S =>
    exact raisesOnly_withOperands _ _
      (raisesOnly_ite (raisesOnly_raise (.xlin8 S) _ rfl) (raisesOnly_succeed _ rfl))
  | xlin16 S =>
    exact raisesOnly_withOperands _ _
      (raisesOnly_ite (raisesOnly_raise (.xlin16 S) _ rfl) (raisesOnly_succeed _ rfl))
  | xscr S =>
    have hsize := raisesOnly_raise (s := s) (MayRaise.xscr S) (.failed .size) rfl
    exact raisesOnly_withOperands _ _ (raisesOnly_ite hsize (raisesOnly_ite hsize (raisesOnly_succeed _ rfl)))
  | tprobe S t x0 y0 =>
    exact raisesOnly_withOperands _ _ (raisesOnly_withBlock (.tprobe S t x0 y0) _ _ _ _ _ (raisesOnly_succeed _ rfl))
  | xlarge S x0 y0 =>
    exact raisesOnly_withOperands _ _ (raisesOnly_withBlock (.xlarge S x0 y0) _ _ _ _ _ (raisesOnly_succeed _ rfl))
  | palbuild P bpp =>
    exact raisesOnly_withOperands _ _ (raisesOnly_ite (raisesOnly_raise (.palbuildWidth P bpp) _ rfl)
      (raisesOnly_ite (raisesOnly_raise (.palbuildCount P bpp) _ rfl) (raisesOnly_succeed _ rfl)))
  | palraw L => exact raisesOnly_ite (raisesOnly_raise (.palraw L) _ rfl) (raisesOnly_succeed _ rfl)
  | convert tiles src => exact execConvert_raisesOnly tiles src s
  | packlin src =>
    exact raisesOnly_withOperands _ _
      (raisesOnly_ite (raisesOnly_raise (.packlin src) _ rfl) (raisesOnly_succeed _ rfl))
  | split16 | hflip16 | vflip16 | pack => exact raisesOnly_withOperands _ _ (raisesOnly_succeed _ rfl)
  | tmser | tmsplit | tmsplitc => exact raisesOnly_withTilemapLength _ (raisesOnly_succeed _ rfl)
  | hwcolor | colorword | tmword | tmbyte0 | tmbyte1 | planebyte => exact raisesOnly_refused _

/-- Settles O44: the table of R132, read row by row. -/
theorem errorsByOperation : Obligations.ErrorsByOperation := by
  unfold Obligations.ErrorsByOperation
  intro i s t k info h hout
  cases exec_raisesOnly i s t k info h hout with
  | xlin8 S => exact .inl ⟨S, rfl, .inl rfl⟩
  | xlin16 S => exact .inl ⟨S, rfl, .inr (.inl rfl)⟩
  | xscr S => exact .inl ⟨S, rfl, .inr (.inr rfl)⟩
  | tprobe S c x y => exact .inr (.inl ⟨S, c, x, y, rfl, .inl rfl⟩)
  | xlarge S x y => exact .inr (.inl ⟨S, 0, x, y, rfl, .inr rfl⟩)
  | palbuildWidth P bpp => exact .inr (.inr (.inl ⟨P, bpp, rfl, .inl rfl⟩))
  | palbuildCount P bpp => exact .inr (.inr (.inl ⟨P, bpp, rfl, .inr rfl⟩))
  | palraw L => exact .inr (.inr (.inr (.inl ⟨L, rfl, rfl⟩)))
  | convertFull tiles src => exact .inr (.inr (.inr (.inr (.inl ⟨tiles, src, rfl, .inl rfl⟩))))
  | convertUncovered tiles src => exact .inr (.inr (.inr (.inr (.inl ⟨tiles, src, rfl, .inr rfl⟩))))
  | packlin src => exact .inr (.inr (.inr (.inr (.inr ⟨src, rfl, rfl⟩))))

/-! ## Where an operation in range stops (R49, R69, R70, R133, R144) -/

theorem safe_succeed (v : Value) (s : State) : Safe (succeed v s) := ⟨_, rfl⟩

theorem safe_raise (k : ErrKind) (info : ErrInfo) (s : State) : Safe (raise k info s) := ⟨_, rfl⟩

section
variable {o o' : Host.Outcome State Fault Refusal}

theorem safe_ite {c : Prop} [Decidable c] (h : Safe o) (h' : Safe o') : Safe (if c then o else o') := by
  split
  · exact h
  · exact h'

theorem safe_withOperands (mn : String) {inRange : Bool} (hrange : inRange = true) (h : Safe o) :
    Safe (withOperands mn inRange o) := by
  rwa [withOperands_of_inRange mn hrange]

theorem withBlock_safe_or_unaligned (mn : String) (S : Surface) (x0 y0 n : Nat) (s : State) (h : Safe o) :
    Safe (withBlock mn S x0 y0 n s o) ∨
    (withBlock mn S x0 y0 n s o = .refused (.unalignedPosition mn) ∧ ¬ (x0 % n = 0 ∧ y0 % n = 0)) := by
  by_cases hin : x0 + n ≤ S.W ∧ y0 + n ≤ S.H
  · by_cases haligned : x0 % n = 0 ∧ y0 % n = 0
    · exact .inl (by rwa [withBlock_of_aligned mn s o hin haligned])
    · exact .inr ⟨withBlock_of_unaligned mn s o hin haligned, haligned⟩
  · exact .inl (by rw [withBlock_of_outside mn s o hin]; exact safe_raise _ _ s)

theorem withTilemapLength_safe_or_fault (tm : List TmEntry) (h : Safe o) :
    Safe (withTilemapLength tm o) ∨
    (withTilemapLength tm o = .fault .contractViolation ∧ tm.length % 1024 ≠ 0) := by
  by_cases hlen : tm.length % 1024 = 0
  · exact .inl (by rwa [withTilemapLength_of_multiple hlen])
  · exact .inr ⟨withTilemapLength_of_not_multiple hlen o, hlen⟩

end

theorem TableInv.tableOk {table : PaletteTable} (h : TableInv table) : tableOk table = true :=
  Bool.and_eq_true_iff.mpr ⟨decide_eq_true h.few, List.all_eq_true.mpr h.canonical⟩

theorem PassInv.tilesetOk {s : State} (h : PassInv s) : tilesetOk s.ts = true :=
  List.all_eq_true.mpr fun c hc => beq_iff_eq.mpr (h.sizes c hc)

/-- An operand in range passes its check wherever it comes from, if the store does (R28). -/
theorem check_srcValue_of_ok {α : Type} {check : α → Bool} {src : Src α} {stored : α} (h : src.ok check = true)
    (hstored : check stored = true) : check (srcValue stored src) = true := by
  cases src with
  | store => exact hstored
  | given v => exact h

theorem exec_convert_safe {tiles : List Tile8} {src : Src PaletteTable} {s : State} (htiles : tilesOk tiles = true)
    (htable : tableOk (srcValue s.pt src) = true) : Safe (exec (.convert tiles src) s) := by
  cases hloop : convertTiles (srcValue s.pt src) tiles s.clearPass with
  | none =>
    rw [exec_convert_of_none htiles htable hloop]
    exact safe_raise _ _ _
  | some t =>
    rw [exec_convert_of_some htiles htable hloop]
    exact safe_ite (safe_succeed _ t) (safe_raise _ _ _)

/-- Settles O46: an operation's own range check is `wellFormed` and, for a store, the invariant; past it only the
length assertion and the alignment of a block can stop it. -/
theorem operationsInRangeComplete : Obligations.OperationsInRangeComplete := by
  unfold Obligations.OperationsInRangeComplete
  intro i s hs hop hwf
  cases i with
  | quant => exact .inl (safe_succeed _ s)
  | xlin8 | xlin16 => exact .inl (safe_withOperands _ hwf (safe_ite (safe_raise _ _ s) (safe_succeed _ s)))
  | xscr | palbuild =>
    exact .inl (safe_withOperands _ hwf
      (safe_ite (safe_raise _ _ s) (safe_ite (safe_raise _ _ s) (safe_succeed _ _))))
  | tprobe S c x y =>
    rw [exec_tprobe hwf]
    exact (withBlock_safe_or_unaligned _ S x y 8 s (safe_succeed _ s)).imp_right
      fun ⟨hrefused, hunaligned⟩ => .inr ⟨⟨_, hrefused⟩, S, c, x, y, .inl ⟨rfl, hunaligned⟩⟩
  | xlarge S x y =>
    rw [exec_xlarge hwf]
    exact (withBlock_safe_or_unaligned _ S x y 16 s (safe_succeed _ s)).imp_right
      fun ⟨hrefused, hunaligned⟩ => .inr ⟨⟨_, hrefused⟩, S, 0, x, y, .inr ⟨rfl, hunaligned⟩⟩
  | split16 | hflip16 | vflip16 => exact .inl (safe_withOperands _ hwf (safe_succeed _ s))
  | palraw => exact .inl (safe_ite (safe_raise _ _ s) (safe_succeed _ s))
  | convert tiles src =>
    obtain ⟨htiles, hsrc⟩ := Bool.and_eq_true_iff.mp hwf
    exact .inl (exec_convert_safe htiles (check_srcValue_of_ok hsrc hs.table.tableOk))
  | pack src bpp =>
    obtain ⟨hsrc, hbpp⟩ := Bool.and_eq_true_iff.mp hwf
    have hts := check_srcValue_of_ok hsrc hs.pass.tilesetOk
    exact .inl (safe_withOperands _ (Bool.and_eq_true_iff.mpr ⟨hts, hbpp⟩) (safe_succeed _ s))
  | packlin src =>
    have hts := check_srcValue_of_ok hwf hs.pass.tilesetOk
    exact .inl (safe_withOperands _ hts (safe_ite (safe_raise _ _ s) (safe_succeed _ s)))
  | tmser src pri =>
    exact (withTilemapLength_safe_or_fault _ (safe_succeed _ s)).imp_right
      fun ⟨hfault, hlen⟩ => .inl ⟨hfault, src, pri, .inl rfl, hlen⟩
  | tmsplit src pri =>
    exact (withTilemapLength_safe_or_fault _ (safe_succeed _ s)).imp_right
      fun ⟨hfault, hlen⟩ => .inl ⟨hfault, src, pri, .inr (.inl rfl), hlen⟩
  | tmsplitc src pri =>
    exact (withTilemapLength_safe_or_fault _ (safe_succeed _ s)).imp_right
      fun ⟨hfault, hlen⟩ => .inl ⟨hfault, src, pri, .inr (.inr rfl), hlen⟩
  | hwcolor | colorword | tmword | tmbyte0 | tmbyte1 | planebyte => cases hop

end Sys2Proof.Machine
end

section
/-! PROOFS. A step that runs nothing, and CONVERT after an earlier pass (70_reset_and_hazards.md). -/

namespace Sys2Proof.Machine

open Sys2Proof

/-! ## A step that runs nothing (R59, R151) -/

/-- Settles O2: with an empty inbox there is nothing to take, and the command that is taken has no meaning. -/
theorem stepWaitsAndRefuses : Obligations.StepWaitsAndRefuses := by
  unfold Obligations.StepWaitsAndRefuses
  refine ⟨fun s hinbox => ?waits, fun s c rest e hinbox hdecode => ?refuses⟩
  case waits =>
    have htake : takeCommand s = none := (takeCommand_none s).mpr hinbox
    simp only [step, htake]
  case refuses =>
    have htake : takeCommand s = some (c, { s with inbox := rest }) :=
      (takeCommand_some s _ c).mpr ⟨rest, hinbox, rfl⟩
    simp only [step, htake, hdecode]

/-! ## CONVERT's loop neither reads nor writes the host's side of the state (R28, R152) -/

/-- The stores of `s` beside the inbox, the outbox and MAX_COLORS of `host`. -/
def State.withHostOf (s host : State) : State :=
  { s with inbox := host.inbox, outbox := host.outbox, maxColors := host.maxColors }

@[simp] theorem withHostOf_pt (s host : State) : (s.withHostOf host).pt = s.pt := rfl
@[simp] theorem withHostOf_ts (s host : State) : (s.withHostOf host).ts = s.ts := rfl
@[simp] theorem withHostOf_tm (s host : State) : (s.withHostOf host).tm = s.tm := rfl
@[simp] theorem withHostOf_lut (s host : State) : (s.withHostOf host).lut = s.lut := rfl
@[simp] theorem withHostOf_inv (s host : State) : (s.withHostOf host).inv = s.inv := rfl
@[simp] theorem withHostOf_pos (s host : State) : (s.withHostOf host).pos = s.pos := rfl
@[simp] theorem withHostOf_inbox (s host : State) : (s.withHostOf host).inbox = host.inbox := rfl
@[simp] theorem withHostOf_outbox (s host : State) : (s.withHostOf host).outbox = host.outbox := rfl
@[simp] theorem withHostOf_maxColors (s host : State) : (s.withHostOf host).maxColors = host.maxColors := rfl

/-- Two states with one PT start CONVERT alike: what an earlier pass left in the stores is cleared. -/
theorem clearPass_withHostOf {s host : State} (hpt : s.pt = host.pt) :
    s.clearPass.withHostOf host = host.clearPass := by
  simp [State.withHostOf, State.clearPass, hpt]

theorem placeCandidate_withHostOf (cand : CTile) (pid : Nat) (s host : State) :
    placeCandidate cand pid (s.withHostOf host) = (placeCandidate cand pid s).map (·.withHostOf host) := by
  unfold placeCandidate
  rw [withHostOf_lut, withHostOf_ts]
  cases mapLookup cand s.lut with
  | some e => rfl
  | none =>
    dsimp only
    split
    · rfl
    · rfl

theorem convertTile_withHostOf (table : PaletteTable) (u : Tile8) (s host : State) :
    convertTile table u (s.withHostOf host) = (convertTile table u s).map (·.withHostOf host) := by
  unfold convertTile
  cases choosePalette table u with
  | none => rfl
  | some chosen =>
    simp only [placeCandidate_withHostOf, Option.map_map]
    rfl

theorem convertTiles_withHostOf (table : PaletteTable) (tiles : List Tile8) (s host : State) :
    convertTiles table tiles (s.withHostOf host) = (convertTiles table tiles s).map (·.withHostOf host) := by
  induction tiles generalizing s with
  | nil => rfl
  | cons u rest ih =>
    unfold convertTiles
    rw [convertTile_withHostOf]
    cases convertTile table u s with
    | none => rfl
    | some s1 => exact ih s1

/-! ## CONVERT after an earlier pass (R107, R152) -/

/-- CONVERT on two states with one PT: one result, and one state but for the host's side. -/
theorem exec_convert_of_pt_eq {tiles : List Tile8} {src : Src PaletteTable} {s host : State}
    (htiles : tilesOk tiles = true) (htable : tableOk (srcValue s.pt src) = true) (hpt : s.pt = host.pt) :
    ∃ (t : State) (r : OpResult), t.outbox = s.outbox ∧ exec (.convert tiles src) s = .next (t.deliver r) ∧
      exec (.convert tiles src) host = .next ((t.withHostOf host).deliver r) := by
  have htable' : tableOk (srcValue host.pt src) = true := hpt ▸ htable
  have hloop' : convertTiles (srcValue host.pt src) tiles host.clearPass
      = (convertTiles (srcValue s.pt src) tiles s.clearPass).map (·.withHostOf host) := by
    rw [← clearPass_withHostOf hpt, ← hpt, convertTiles_withHostOf]
  cases hloop : convertTiles (srcValue s.pt src) tiles s.clearPass with
  | none =>
    rw [hloop, Option.map_none] at hloop'
    rw [exec_convert_of_none htiles htable hloop, exec_convert_of_none htiles htable' hloop',
      ← clearPass_withHostOf hpt]
    exact ⟨s.clearPass, _, rfl, rfl, rfl⟩
  | some t =>
    rw [hloop, Option.map_some] at hloop'
    rw [exec_convert_of_some htiles htable hloop, exec_convert_of_some htiles htable' hloop',
      ← clearPass_withHostOf hpt, withHostOf_inv]
    by_cases hinv : t.inv = []
    · rw [if_pos hinv, if_pos hinv]
      exact ⟨t, _, (convertTiles_sameOutsidePass hloop).outbox, rfl, rfl⟩
    · rw [if_neg hinv, if_neg hinv]
      exact ⟨s.clearPass, _, rfl, rfl, rfl⟩

/-- Settles O31: CONVERT clears its stores first, and its loop does not read what else the two states hold. -/
theorem convertForgetsTheLastPass : Obligations.ConvertForgetsTheLastPass := by
  unfold Obligations.ConvertForgetsTheLastPass
  intro tiles src s1 s2 t1 t2 hpt h1 h2
  obtain ⟨htiles, htable, -⟩ := execConvert_next h1
  obtain ⟨t, r, houtbox, hexec1, hexec2⟩ := exec_convert_of_pt_eq htiles htable hpt
  obtain rfl : t1 = t.deliver r := Host.Outcome.next.inj (h1.symm.trans hexec1)
  obtain rfl : t2 = (t.withHostOf s2).deliver r := Host.Outcome.next.inj (h2.symm.trans hexec2)
  exact ⟨rfl, rfl, rfl, rfl, rfl, rfl, r, by simp [houtbox], rfl⟩

end Sys2Proof.Machine
end
